-- ==== Sys2Proof/Word.lean ====
section
/-! DEFINITION. The two widths of the machine: the 8-bit register and bus width and the 16-bit pair, PC, SP and address
width (00_scope.md R9). -/

namespace Sys2Proof

/-- A register, a bus byte, an immediate byte (R9: register width and data width 8 bits). -/
abbrev Byte := BitVec 8

/-- A pair, PC, SP, an address (R9: pair and address width 16 bits). -/
abbrev Word := BitVec 16

end Sys2Proof
end

