-- ==== Sys2Proof/Machine/Bits.lean ====
section
/-! DEFINITION. The bit-field, sign-extension and byte-order helpers of 00_scope.md R11. -/

namespace Sys2Proof.Machine

/-- `v[15:8]`. -/
def hiByte (w : Word) : Byte := w.extractLsb' 8 8

/-- `v[7:0]`. -/
def loByte (w : Word) : Byte := w.extractLsb' 0 8

/-- `{hi, lo}` = `hi * 256 + lo` (R11, R104). -/
def wordOf (hi lo : Byte) : Word := hi ++ lo

/-- `s8(b)`: the signed value of a displacement byte, -128 to 127 (R11). -/
def s8 (b : Byte) : Int := b.toInt

/-- `trunc8` of an exact integer (R11). -/
def trunc8 (v : Int) : Byte := BitVec.ofInt 8 v

/-- `trunc16` of an exact integer (R11). -/
def trunc16 (v : Int) : Word := BitVec.ofInt 16 v

end Sys2Proof.Machine
end

