-- ==== Sys2Proof/Machine/Params.lean ====
section
/-! DEFINITION. The parameters of 00_scope.md R9 to which the spec gives a value, and the addresses of the memory-mapped
registers (10_state.md R121). -/

namespace Sys2Proof.Machine.Params

/-- `P_IDLE_CYCLES`: what a halted step and HALT cost (R402). -/
def idleCycles : Nat := 4
/-- `P_LINES_TOTAL`: LY runs over 0 to 153. -/
def linesTotal : Nat := 154
/-- `P_LINES_VISIBLE`. -/
def linesVisible : Nat := 144
/-- `P_SCREEN_W`. -/
def screenW : Nat := 160
/-- `P_FB_W`: cells in one row of a framebuffer. -/
def fbW : Nat := 256
/-- `P_FB_H`: rows of a framebuffer. -/
def fbH : Nat := 256
/-- `P_LINE_CYCLES`. -/
def lineCycles : Nat := 456
/-- `P_OAM_END` = 76. -/
def oamEnd : Nat := lineCycles / 6
/-- `P_XFER_END` = 228. -/
def xferEnd : Nat := 3 * lineCycles / 6
/-- `P_FRAME_CYCLES` = 70224. -/
def frameCycles : Nat := lineCycles * linesTotal
/-- The V-blank boundary of R1347, 65664. -/
def vblankStart : Nat := linesVisible * lineCycles
/-- `P_DMA_LENGTH`. -/
def dmaLength : Nat := 0x8C
/-- `P_RAM_ENABLE_CODE`. -/
def ramEnableCode : BitVec 4 := 0xA

/-- `P_VECTORS` (R1321) for the request bits 0 to 4. -/
def vector (k : Fin 5) : Word :=
  match k with
  | 0 => 0x0040
  | 1 => 0x0048
  | 2 => 0x0050
  | 3 => 0x0058
  | 4 => 0x0060

/-- `P_SUPPORTED_CART_TYPES` (20_memory.md R239). -/
def supportedCartTypes : List Byte := [0x00, 0x01, 0x02, 0x03]

/-- The RAM-size table of 20_memory.md R237: the bytes of external RAM a header code stands for, none for a code that is a
load-time failure. -/
def ramSizeOfCode (code : Byte) : Option Nat :=
  if code = 0x00 then some 0
  else if code = 0x01 then some 0x0800
  else if code = 0x02 then some 0x2000
  else if code = 0x03 then some 0x8000
  else if code = 0x04 then some 0x20000
  else if code = 0x05 then some 0x10000
  else none

/-- The least length of an image that has a header (R239). -/
def minRomLen : Nat := 0x150

/-- Header offset of the controller-type byte (R237). -/
def headerTypeOffset : Nat := 0x147
/-- Header offset of the RAM-size code (R237). -/
def headerRamOffset : Nat := 0x149

/-- IF, the request byte (R121). -/
def addrIF : Nat := 0xFF0F
/-- IE, the enable byte. -/
def addrIE : Nat := 0xFFFF
/-- LCDC. -/
def addrLCDC : Nat := 0xFF40
/-- STAT. -/
def addrSTAT : Nat := 0xFF41
/-- SCY. -/
def addrSCY : Nat := 0xFF42
/-- SCX. -/
def addrSCX : Nat := 0xFF43
/-- LY. -/
def addrLY : Nat := 0xFF44
/-- LYC. -/
def addrLYC : Nat := 0xFF45
/-- The DMA trigger. -/
def addrDMA : Nat := 0xFF46
/-- BGP. -/
def addrBGP : Nat := 0xFF47
/-- WY. -/
def addrWY : Nat := 0xFF4A
/-- WX. -/
def addrWX : Nat := 0xFF4B
/-- The first byte of the DMA destination, the sprite-attribute region (R205). -/
def addrOAM : Nat := 0xFE00

end Sys2Proof.Machine.Params
end

