-- ==== Sys2Proof/Config.lean ====
section
/-! DEFINITION. What the spec leaves as an open parameter of the session and the model fixes for `State.reset` and for what a
byte that nothing has written reads as. Every value here is a DESIGN CHOICE of the model and stands in a log entry. The
parameters the spec itself fixes (00_scope.md R9) stand in Machine/Params.lean. -/

namespace Sys2Proof.Config

/-- What a bus byte that no store has changed reads as (`P_BUS_INIT`, 10_state.md R141). The fixed values are the spec's:
STAT bits 1 to 0 = 2, IF = IE = LY = 0. DESIGN CHOICE, unsafe (log 2): every other byte of `P_BUS_INIT` is 0x00. -/
def busUnlisted (addr : Nat) : Byte := if addr = 0xFF41 then 2 else 0

/-- What an external-RAM byte that no store has changed reads as (`P_CART_RAM_INIT`, R125). DESIGN CHOICE, unsafe (log 3). -/
def ramUnlisted (_index : Nat) : Byte := 0

/-- What a byte of the ROM image that the image's list does not name is. DESIGN CHOICE, safe (log 1): the list names every
byte that is not 0x00, so every image can be written down. -/
def romUnlisted (_index : Nat) : Byte := 0

/-- The shade of a framebuffer cell that no render has written (R131: "any value"). DESIGN CHOICE, unsafe (log 4). -/
def shadeUnlisted (_cell : Nat) : BitVec 2 := 0

/-- The length of the blank ROM image of `State.reset` (`P_ROM` is OPEN, R9). DESIGN CHOICE, unsafe (log 1): 32 KiB. -/
def resetRomLen : Nat := 0x8000

end Sys2Proof.Config
end

