-- ==== Sys2Proof/Syntax.lean ====
section
/-! DEFINITION. The instruction set as syntax: one constructor of `Instr` per row of spec/opcode_table.json, in the table's
order, with the immediate of the row's format (30_encoding.md R302, R304) as its field, and the operand codes of R303.

A constructor's name is the row's source mnemonic in one word: `LD A,(HL+)` is `ldAMemHLInc` (Mem marks a memory operand, D8,
D16, A8, A16, R8 an immediate). STOP has no field: its second byte is never read (R308, R1203). The eleven `undef..` rows are
the bytes with no table entry (R307). -/

namespace Sys2Proof

/-- The seven registers of the field code `r` of R303 (code 6 names the byte at HL and is no register). -/
inductive Reg8 where
  | b | c | d | e | h | l | a
deriving DecidableEq, Repr

/-- The field code `rp` of R303. -/
inductive Pair where
  | bc | de | hl | sp
deriving DecidableEq, Repr

/-- The field code `qq` of R303 (PUSH and POP). -/
inductive StackPair where
  | bc | de | hl | af
deriving DecidableEq, Repr

/-- The field code `cc` of R303. -/
inductive Cond where
  | nz | z | nc | c
deriving DecidableEq, Repr

/-- The field code `alu` of R303. -/
inductive AluOp where
  | add | adc | sub | sbc | and | xor | or | cp
deriving DecidableEq, Repr

/-- The field code `rot` of R303. -/
inductive RotOp where
  | rlc | rrc | rl | rr | sla | sra | swap | srl
deriving DecidableEq, Repr

/-- The instructions: one constructor per row of spec/opcode_table.json. -/
inductive Instr where
  /-- `NOP`, 0x00, R1201. -/
  | nop
  /-- `LD BC,d16`, 0x01, R601. -/
  | ldBCD16 (nn : Word)
  /-- `LD (BC),A`, 0x02, R508. -/
  | ldMemBCA
  /-- `INC BC`, 0x03, R802. -/
  | incBC
  /-- `INC B`, 0x04, R725. -/
  | incB
  /-- `DEC B`, 0x05, R727. -/
  | decB
  /-- `LD B,d8`, 0x06, R502. -/
  | ldBD8 (n : Byte)
  /-- `RLCA`, 0x07, R901. -/
  | rlca
  /-- `LD (a16),SP`, 0x08, R602. -/
  | ldMemA16SP (nn : Word)
  /-- `ADD HL,BC`, 0x09, R801. -/
  | addHLBC
  /-- `LD A,(BC)`, 0x0A, R506. -/
  | ldAMemBC
  /-- `DEC BC`, 0x0B, R803. -/
  | decBC
  /-- `INC C`, 0x0C, R725. -/
  | incC
  /-- `DEC C`, 0x0D, R727. -/
  | decC
  /-- `LD C,d8`, 0x0E, R502. -/
  | ldCD8 (n : Byte)
  /-- `RRCA`, 0x0F, R902. -/
  | rrca
  /-- `STOP`, 0x10, R1203. -/
  | stop
  /-- `LD DE,d16`, 0x11, R601. -/
  | ldDED16 (nn : Word)
  /-- `LD (DE),A`, 0x12, R509. -/
  | ldMemDEA
  /-- `INC DE`, 0x13, R802. -/
  | incDE
  /-- `INC D`, 0x14, R725. -/
  | incD
  /-- `DEC D`, 0x15, R727. -/
  | decD
  /-- `LD D,d8`, 0x16, R502. -/
  | ldDD8 (n : Byte)
  /-- `RLA`, 0x17, R903. -/
  | rla
  /-- `JR r8`, 0x18, R1104. -/
  | jrR8 (e : Byte)
  /-- `ADD HL,DE`, 0x19, R801. -/
  | addHLDE
  /-- `LD A,(DE)`, 0x1A, R507. -/
  | ldAMemDE
  /-- `DEC DE`, 0x1B, R803. -/
  | decDE
  /-- `INC E`, 0x1C, R725. -/
  | incE
  /-- `DEC E`, 0x1D, R727. -/
  | decE
  /-- `LD E,d8`, 0x1E, R502. -/
  | ldED8 (n : Byte)
  /-- `RRA`, 0x1F, R904. -/
  | rra
  /-- `JR NZ,r8`, 0x20, R1105. -/
  | jrNzR8 (e : Byte)
  /-- `LD HL,d16`, 0x21, R601. -/
  | ldHLD16 (nn : Word)
  /-- `LD (HL+),A`, 0x22, R519. -/
  | ldMemHLIncA
  /-- `INC HL`, 0x23, R802. -/
  | incHL
  /-- `INC H`, 0x24, R725. -/
  | incH
  /-- `DEC H`, 0x25, R727. -/
  | decH
  /-- `LD H,d8`, 0x26, R502. -/
  | ldHD8 (n : Byte)
  /-- `DAA`, 0x27, R729. -/
  | daa
  /-- `JR Z,r8`, 0x28, R1105. -/
  | jrZR8 (e : Byte)
  /-- `ADD HL,HL`, 0x29, R801. -/
  | addHLHL
  /-- `LD A,(HL+)`, 0x2A, R518. -/
  | ldAMemHLInc
  /-- `DEC HL`, 0x2B, R803. -/
  | decHL
  /-- `INC L`, 0x2C, R725. -/
  | incL
  /-- `DEC L`, 0x2D, R727. -/
  | decL
  /-- `LD L,d8`, 0x2E, R502. -/
  | ldLD8 (n : Byte)
  /-- `CPL`, 0x2F, R730. -/
  | cpl
  /-- `JR NC,r8`, 0x30, R1105. -/
  | jrNcR8 (e : Byte)
  /-- `LD SP,d16`, 0x31, R601. -/
  | ldSPD16 (nn : Word)
  /-- `LD (HL-),A`, 0x32, R517. -/
  | ldMemHLDecA
  /-- `INC SP`, 0x33, R802. -/
  | incSP
  /-- `INC (HL)`, 0x34, R726. -/
  | incMemHL
  /-- `DEC (HL)`, 0x35, R728. -/
  | decMemHL
  /-- `LD (HL),d8`, 0x36, R505. -/
  | ldMemHLD8 (n : Byte)
  /-- `SCF`, 0x37, R731. -/
  | scf
  /-- `JR C,r8`, 0x38, R1105. -/
  | jrCR8 (e : Byte)
  /-- `ADD HL,SP`, 0x39, R801. -/
  | addHLSP
  /-- `LD A,(HL-)`, 0x3A, R516. -/
  | ldAMemHLDec
  /-- `DEC SP`, 0x3B, R803. -/
  | decSP
  /-- `INC A`, 0x3C, R725. -/
  | incA
  /-- `DEC A`, 0x3D, R727. -/
  | decA
  /-- `LD A,d8`, 0x3E, R502. -/
  | ldAD8 (n : Byte)
  /-- `CCF`, 0x3F, R732. -/
  | ccf
  /-- `LD B,B`, 0x40, R501. -/
  | ldBB
  /-- `LD B,C`, 0x41, R501. -/
  | ldBC
  /-- `LD B,D`, 0x42, R501. -/
  | ldBD
  /-- `LD B,E`, 0x43, R501. -/
  | ldBE
  /-- `LD B,H`, 0x44, R501. -/
  | ldBH
  /-- `LD B,L`, 0x45, R501. -/
  | ldBL
  /-- `LD B,(HL)`, 0x46, R503. -/
  | ldBMemHL
  /-- `LD B,A`, 0x47, R501. -/
  | ldBA
  /-- `LD C,B`, 0x48, R501. -/
  | ldCB
  /-- `LD C,C`, 0x49, R501. -/
  | ldCC
  /-- `LD C,D`, 0x4A, R501. -/
  | ldCD
  /-- `LD C,E`, 0x4B, R501. -/
  | ldCE
  /-- `LD C,H`, 0x4C, R501. -/
  | ldCH
  /-- `LD C,L`, 0x4D, R501. -/
  | ldCL
  /-- `LD C,(HL)`, 0x4E, R503. -/
  | ldCMemHL
  /-- `LD C,A`, 0x4F, R501. -/
  | ldCA
  /-- `LD D,B`, 0x50, R501. -/
  | ldDB
  /-- `LD D,C`, 0x51, R501. -/
  | ldDC
  /-- `LD D,D`, 0x52, R501. -/
  | ldDD
  /-- `LD D,E`, 0x53, R501. -/
  | ldDE
  /-- `LD D,H`, 0x54, R501. -/
  | ldDH
  /-- `LD D,L`, 0x55, R501. -/
  | ldDL
  /-- `LD D,(HL)`, 0x56, R503. -/
  | ldDMemHL
  /-- `LD D,A`, 0x57, R501. -/
  | ldDA
  /-- `LD E,B`, 0x58, R501. -/
  | ldEB
  /-- `LD E,C`, 0x59, R501. -/
  | ldEC
  /-- `LD E,D`, 0x5A, R501. -/
  | ldED
  /-- `LD E,E`, 0x5B, R501. -/
  | ldEE
  /-- `LD E,H`, 0x5C, R501. -/
  | ldEH
  /-- `LD E,L`, 0x5D, R501. -/
  | ldEL
  /-- `LD E,(HL)`, 0x5E, R503. -/
  | ldEMemHL
  /-- `LD E,A`, 0x5F, R501. -/
  | ldEA
  /-- `LD H,B`, 0x60, R501. -/
  | ldHB
  /-- `LD H,C`, 0x61, R501. -/
  | ldHC
  /-- `LD H,D`, 0x62, R501. -/
  | ldHD
  /-- `LD H,E`, 0x63, R501. -/
  | ldHE
  /-- `LD H,H`, 0x64, R501. -/
  | ldHH
  /-- `LD H,L`, 0x65, R501. -/
  | ldHL
  /-- `LD H,(HL)`, 0x66, R503. -/
  | ldHMemHL
  /-- `LD H,A`, 0x67, R501. -/
  | ldHA
  /-- `LD L,B`, 0x68, R501. -/
  | ldLB
  /-- `LD L,C`, 0x69, R501. -/
  | ldLC
  /-- `LD L,D`, 0x6A, R501. -/
  | ldLD
  /-- `LD L,E`, 0x6B, R501. -/
  | ldLE
  /-- `LD L,H`, 0x6C, R501. -/
  | ldLH
  /-- `LD L,L`, 0x6D, R501. -/
  | ldLL
  /-- `LD L,(HL)`, 0x6E, R503. -/
  | ldLMemHL
  /-- `LD L,A`, 0x6F, R501. -/
  | ldLA
  /-- `LD (HL),B`, 0x70, R504. -/
  | ldMemHLB
  /-- `LD (HL),C`, 0x71, R504. -/
  | ldMemHLC
  /-- `LD (HL),D`, 0x72, R504. -/
  | ldMemHLD
  /-- `LD (HL),E`, 0x73, R504. -/
  | ldMemHLE
  /-- `LD (HL),H`, 0x74, R504. -/
  | ldMemHLH
  /-- `LD (HL),L`, 0x75, R504. -/
  | ldMemHLL
  /-- `HALT`, 0x76, R1202. -/
  | halt
  /-- `LD (HL),A`, 0x77, R504. -/
  | ldMemHLA
  /-- `LD A,B`, 0x78, R501. -/
  | ldAB
  /-- `LD A,C`, 0x79, R501. -/
  | ldAC
  /-- `LD A,D`, 0x7A, R501. -/
  | ldAD
  /-- `LD A,E`, 0x7B, R501. -/
  | ldAE
  /-- `LD A,H`, 0x7C, R501. -/
  | ldAH
  /-- `LD A,L`, 0x7D, R501. -/
  | ldAL
  /-- `LD A,(HL)`, 0x7E, R503. -/
  | ldAMemHL
  /-- `LD A,A`, 0x7F, R501. -/
  | ldAA
  /-- `ADD A,B`, 0x80, R701. -/
  | addAB
  /-- `ADD A,C`, 0x81, R701. -/
  | addAC
  /-- `ADD A,D`, 0x82, R701. -/
  | addAD
  /-- `ADD A,E`, 0x83, R701. -/
  | addAE
  /-- `ADD A,H`, 0x84, R701. -/
  | addAH
  /-- `ADD A,L`, 0x85, R701. -/
  | addAL
  /-- `ADD A,(HL)`, 0x86, R702. -/
  | addAMemHL
  /-- `ADD A,A`, 0x87, R701. -/
  | addAA
  /-- `ADC A,B`, 0x88, R704. -/
  | adcAB
  /-- `ADC A,C`, 0x89, R704. -/
  | adcAC
  /-- `ADC A,D`, 0x8A, R704. -/
  | adcAD
  /-- `ADC A,E`, 0x8B, R704. -/
  | adcAE
  /-- `ADC A,H`, 0x8C, R704. -/
  | adcAH
  /-- `ADC A,L`, 0x8D, R704. -/
  | adcAL
  /-- `ADC A,(HL)`, 0x8E, R705. -/
  | adcAMemHL
  /-- `ADC A,A`, 0x8F, R704. -/
  | adcAA
  /-- `SUB B`, 0x90, R707. -/
  | subB
  /-- `SUB C`, 0x91, R707. -/
  | subC
  /-- `SUB D`, 0x92, R707. -/
  | subD
  /-- `SUB E`, 0x93, R707. -/
  | subE
  /-- `SUB H`, 0x94, R707. -/
  | subH
  /-- `SUB L`, 0x95, R707. -/
  | subL
  /-- `SUB (HL)`, 0x96, R708. -/
  | subMemHL
  /-- `SUB A`, 0x97, R707. -/
  | subA
  /-- `SBC A,B`, 0x98, R710. -/
  | sbcAB
  /-- `SBC A,C`, 0x99, R710. -/
  | sbcAC
  /-- `SBC A,D`, 0x9A, R710. -/
  | sbcAD
  /-- `SBC A,E`, 0x9B, R710. -/
  | sbcAE
  /-- `SBC A,H`, 0x9C, R710. -/
  | sbcAH
  /-- `SBC A,L`, 0x9D, R710. -/
  | sbcAL
  /-- `SBC A,(HL)`, 0x9E, R711. -/
  | sbcAMemHL
  /-- `SBC A,A`, 0x9F, R710. -/
  | sbcAA
  /-- `AND B`, 0xA0, R713. -/
  | andB
  /-- `AND C`, 0xA1, R713. -/
  | andC
  /-- `AND D`, 0xA2, R713. -/
  | andD
  /-- `AND E`, 0xA3, R713. -/
  | andE
  /-- `AND H`, 0xA4, R713. -/
  | andH
  /-- `AND L`, 0xA5, R713. -/
  | andL
  /-- `AND (HL)`, 0xA6, R714. -/
  | andMemHL
  /-- `AND A`, 0xA7, R713. -/
  | andA
  /-- `XOR B`, 0xA8, R716. -/
  | xorB
  /-- `XOR C`, 0xA9, R716. -/
  | xorC
  /-- `XOR D`, 0xAA, R716. -/
  | xorD
  /-- `XOR E`, 0xAB, R716. -/
  | xorE
  /-- `XOR H`, 0xAC, R716. -/
  | xorH
  /-- `XOR L`, 0xAD, R716. -/
  | xorL
  /-- `XOR (HL)`, 0xAE, R717. -/
  | xorMemHL
  /-- `XOR A`, 0xAF, R716. -/
  | xorA
  /-- `OR B`, 0xB0, R719. -/
  | orB
  /-- `OR C`, 0xB1, R719. -/
  | orC
  /-- `OR D`, 0xB2, R719. -/
  | orD
  /-- `OR E`, 0xB3, R719. -/
  | orE
  /-- `OR H`, 0xB4, R719. -/
  | orH
  /-- `OR L`, 0xB5, R719. -/
  | orL
  /-- `OR (HL)`, 0xB6, R720. -/
  | orMemHL
  /-- `OR A`, 0xB7, R719. -/
  | orA
  /-- `CP B`, 0xB8, R722. -/
  | cpB
  /-- `CP C`, 0xB9, R722. -/
  | cpC
  /-- `CP D`, 0xBA, R722. -/
  | cpD
  /-- `CP E`, 0xBB, R722. -/
  | cpE
  /-- `CP H`, 0xBC, R722. -/
  | cpH
  /-- `CP L`, 0xBD, R722. -/
  | cpL
  /-- `CP (HL)`, 0xBE, R723. -/
  | cpMemHL
  /-- `CP A`, 0xBF, R722. -/
  | cpA
  /-- `RET NZ`, 0xC0, R1109. -/
  | retNz
  /-- `POP BC`, 0xC1, R605. -/
  | popBC
  /-- `JP NZ,a16`, 0xC2, R1102. -/
  | jpNzA16 (nn : Word)
  /-- `JP a16`, 0xC3, R1101. -/
  | jpA16 (nn : Word)
  /-- `CALL NZ,a16`, 0xC4, R1107. -/
  | callNzA16 (nn : Word)
  /-- `PUSH BC`, 0xC5, R604. -/
  | pushBC
  /-- `ADD A,d8`, 0xC6, R703. -/
  | addAD8 (n : Byte)
  /-- `RST 00H`, 0xC7, R1111. -/
  | rst00H
  /-- `RET Z`, 0xC8, R1109. -/
  | retZ
  /-- `RET`, 0xC9, R1108. -/
  | ret
  /-- `JP Z,a16`, 0xCA, R1102. -/
  | jpZA16 (nn : Word)
  /-- `CALL Z,a16`, 0xCC, R1107. -/
  | callZA16 (nn : Word)
  /-- `CALL a16`, 0xCD, R1106. -/
  | callA16 (nn : Word)
  /-- `ADC A,d8`, 0xCE, R706. -/
  | adcAD8 (n : Byte)
  /-- `RST 08H`, 0xCF, R1111. -/
  | rst08H
  /-- `RET NC`, 0xD0, R1109. -/
  | retNc
  /-- `POP DE`, 0xD1, R605. -/
  | popDE
  /-- `JP NC,a16`, 0xD2, R1102. -/
  | jpNcA16 (nn : Word)
  /-- `CALL NC,a16`, 0xD4, R1107. -/
  | callNcA16 (nn : Word)
  /-- `PUSH DE`, 0xD5, R604. -/
  | pushDE
  /-- `SUB d8`, 0xD6, R709. -/
  | subD8 (n : Byte)
  /-- `RST 10H`, 0xD7, R1111. -/
  | rst10H
  /-- `RET C`, 0xD8, R1109. -/
  | retC
  /-- `RETI`, 0xD9, R1110. -/
  | reti
  /-- `JP C,a16`, 0xDA, R1102. -/
  | jpCA16 (nn : Word)
  /-- `CALL C,a16`, 0xDC, R1107. -/
  | callCA16 (nn : Word)
  /-- `SBC A,d8`, 0xDE, R712. -/
  | sbcAD8 (n : Byte)
  /-- `RST 18H`, 0xDF, R1111. -/
  | rst18H
  /-- `LDH (a8),A`, 0xE0, R515. -/
  | ldhMemA8A (n : Byte)
  /-- `POP HL`, 0xE1, R605. -/
  | popHL
  /-- `LD (C),A`, 0xE2, R513. -/
  | ldMemCA
  /-- `PUSH HL`, 0xE5, R604. -/
  | pushHL
  /-- `AND d8`, 0xE6, R715. -/
  | andD8 (n : Byte)
  /-- `RST 20H`, 0xE7, R1111. -/
  | rst20H
  /-- `ADD SP,r8`, 0xE8, R804. -/
  | addSPR8 (e : Byte)
  /-- `JP HL`, 0xE9, R1103. -/
  | jpHL
  /-- `LD (a16),A`, 0xEA, R511. -/
  | ldMemA16A (nn : Word)
  /-- `XOR d8`, 0xEE, R718. -/
  | xorD8 (n : Byte)
  /-- `RST 28H`, 0xEF, R1111. -/
  | rst28H
  /-- `LDH A,(a8)`, 0xF0, R514. -/
  | ldhAMemA8 (n : Byte)
  /-- `POP AF`, 0xF1, R606. -/
  | popAF
  /-- `LD A,(C)`, 0xF2, R512. -/
  | ldAMemC
  /-- `DI`, 0xF3, R1204. -/
  | di
  /-- `PUSH AF`, 0xF5, R604. -/
  | pushAF
  /-- `OR d8`, 0xF6, R721. -/
  | orD8 (n : Byte)
  /-- `RST 30H`, 0xF7, R1111. -/
  | rst30H
  /-- `LD HL,SP+r8`, 0xF8, R805. -/
  | ldHLSPR8 (e : Byte)
  /-- `LD SP,HL`, 0xF9, R603. -/
  | ldSPHL
  /-- `LD A,(a16)`, 0xFA, R510. -/
  | ldAMemA16 (nn : Word)
  /-- `EI`, 0xFB, R1205. -/
  | ei
  /-- `CP d8`, 0xFE, R724. -/
  | cpD8 (n : Byte)
  /-- `RST 38H`, 0xFF, R1111. -/
  | rst38H
  /-- `(undefined)`, 0xD3, R307. -/
  | undefD3
  /-- `(undefined)`, 0xDB, R307. -/
  | undefDB
  /-- `(undefined)`, 0xDD, R307. -/
  | undefDD
  /-- `(undefined)`, 0xE3, R307. -/
  | undefE3
  /-- `(undefined)`, 0xE4, R307. -/
  | undefE4
  /-- `(undefined)`, 0xEB, R307. -/
  | undefEB
  /-- `(undefined)`, 0xEC, R307. -/
  | undefEC
  /-- `(undefined)`, 0xED, R307. -/
  | undefED
  /-- `(undefined)`, 0xF4, R307. -/
  | undefF4
  /-- `(undefined)`, 0xFC, R307. -/
  | undefFC
  /-- `(undefined)`, 0xFD, R307. -/
  | undefFD
  /-- `RLC B`, 0xCB00, R905. -/
  | rlcB
  /-- `RLC C`, 0xCB01, R905. -/
  | rlcC
  /-- `RLC D`, 0xCB02, R905. -/
  | rlcD
  /-- `RLC E`, 0xCB03, R905. -/
  | rlcE
  /-- `RLC H`, 0xCB04, R905. -/
  | rlcH
  /-- `RLC L`, 0xCB05, R905. -/
  | rlcL
  /-- `RLC (HL)`, 0xCB06, R906. -/
  | rlcMemHL
  /-- `RLC A`, 0xCB07, R905. -/
  | rlcA
  /-- `RRC B`, 0xCB08, R907. -/
  | rrcB
  /-- `RRC C`, 0xCB09, R907. -/
  | rrcC
  /-- `RRC D`, 0xCB0A, R907. -/
  | rrcD
  /-- `RRC E`, 0xCB0B, R907. -/
  | rrcE
  /-- `RRC H`, 0xCB0C, R907. -/
  | rrcH
  /-- `RRC L`, 0xCB0D, R907. -/
  | rrcL
  /-- `RRC (HL)`, 0xCB0E, R908. -/
  | rrcMemHL
  /-- `RRC A`, 0xCB0F, R907. -/
  | rrcA
  /-- `RL B`, 0xCB10, R909. -/
  | rlB
  /-- `RL C`, 0xCB11, R909. -/
  | rlC
  /-- `RL D`, 0xCB12, R909. -/
  | rlD
  /-- `RL E`, 0xCB13, R909. -/
  | rlE
  /-- `RL H`, 0xCB14, R909. -/
  | rlH
  /-- `RL L`, 0xCB15, R909. -/
  | rlL
  /-- `RL (HL)`, 0xCB16, R910. -/
  | rlMemHL
  /-- `RL A`, 0xCB17, R909. -/
  | rlA
  /-- `RR B`, 0xCB18, R911. -/
  | rrB
  /-- `RR C`, 0xCB19, R911. -/
  | rrC
  /-- `RR D`, 0xCB1A, R911. -/
  | rrD
  /-- `RR E`, 0xCB1B, R911. -/
  | rrE
  /-- `RR H`, 0xCB1C, R911. -/
  | rrH
  /-- `RR L`, 0xCB1D, R911. -/
  | rrL
  /-- `RR (HL)`, 0xCB1E, R912. -/
  | rrMemHL
  /-- `RR A`, 0xCB1F, R911. -/
  | rrA
  /-- `SLA B`, 0xCB20, R913. -/
  | slaB
  /-- `SLA C`, 0xCB21, R913. -/
  | slaC
  /-- `SLA D`, 0xCB22, R913. -/
  | slaD
  /-- `SLA E`, 0xCB23, R913. -/
  | slaE
  /-- `SLA H`, 0xCB24, R913. -/
  | slaH
  /-- `SLA L`, 0xCB25, R913. -/
  | slaL
  /-- `SLA (HL)`, 0xCB26, R914. -/
  | slaMemHL
  /-- `SLA A`, 0xCB27, R913. -/
  | slaA
  /-- `SRA B`, 0xCB28, R915. -/
  | sraB
  /-- `SRA C`, 0xCB29, R915. -/
  | sraC
  /-- `SRA D`, 0xCB2A, R915. -/
  | sraD
  /-- `SRA E`, 0xCB2B, R915. -/
  | sraE
  /-- `SRA H`, 0xCB2C, R915. -/
  | sraH
  /-- `SRA L`, 0xCB2D, R915. -/
  | sraL
  /-- `SRA (HL)`, 0xCB2E, R916. -/
  | sraMemHL
  /-- `SRA A`, 0xCB2F, R915. -/
  | sraA
  /-- `SWAP B`, 0xCB30, R917. -/
  | swapB
  /-- `SWAP C`, 0xCB31, R917. -/
  | swapC
  /-- `SWAP D`, 0xCB32, R917. -/
  | swapD
  /-- `SWAP E`, 0xCB33, R917. -/
  | swapE
  /-- `SWAP H`, 0xCB34, R917. -/
  | swapH
  /-- `SWAP L`, 0xCB35, R917. -/
  | swapL
  /-- `SWAP (HL)`, 0xCB36, R918. -/
  | swapMemHL
  /-- `SWAP A`, 0xCB37, R917. -/
  | swapA
  /-- `SRL B`, 0xCB38, R919. -/
  | srlB
  /-- `SRL C`, 0xCB39, R919. -/
  | srlC
  /-- `SRL D`, 0xCB3A, R919. -/
  | srlD
  /-- `SRL E`, 0xCB3B, R919. -/
  | srlE
  /-- `SRL H`, 0xCB3C, R919. -/
  | srlH
  /-- `SRL L`, 0xCB3D, R919. -/
  | srlL
  /-- `SRL (HL)`, 0xCB3E, R920. -/
  | srlMemHL
  /-- `SRL A`, 0xCB3F, R919. -/
  | srlA
  /-- `BIT 0,B`, 0xCB40, R1001. -/
  | bit0B
  /-- `BIT 0,C`, 0xCB41, R1001. -/
  | bit0C
  /-- `BIT 0,D`, 0xCB42, R1001. -/
  | bit0D
  /-- `BIT 0,E`, 0xCB43, R1001. -/
  | bit0E
  /-- `BIT 0,H`, 0xCB44, R1001. -/
  | bit0H
  /-- `BIT 0,L`, 0xCB45, R1001. -/
  | bit0L
  /-- `BIT 0,(HL)`, 0xCB46, R1002. -/
  | bit0MemHL
  /-- `BIT 0,A`, 0xCB47, R1001. -/
  | bit0A
  /-- `BIT 1,B`, 0xCB48, R1001. -/
  | bit1B
  /-- `BIT 1,C`, 0xCB49, R1001. -/
  | bit1C
  /-- `BIT 1,D`, 0xCB4A, R1001. -/
  | bit1D
  /-- `BIT 1,E`, 0xCB4B, R1001. -/
  | bit1E
  /-- `BIT 1,H`, 0xCB4C, R1001. -/
  | bit1H
  /-- `BIT 1,L`, 0xCB4D, R1001. -/
  | bit1L
  /-- `BIT 1,(HL)`, 0xCB4E, R1002. -/
  | bit1MemHL
  /-- `BIT 1,A`, 0xCB4F, R1001. -/
  | bit1A
  /-- `BIT 2,B`, 0xCB50, R1001. -/
  | bit2B
  /-- `BIT 2,C`, 0xCB51, R1001. -/
  | bit2C
  /-- `BIT 2,D`, 0xCB52, R1001. -/
  | bit2D
  /-- `BIT 2,E`, 0xCB53, R1001. -/
  | bit2E
  /-- `BIT 2,H`, 0xCB54, R1001. -/
  | bit2H
  /-- `BIT 2,L`, 0xCB55, R1001. -/
  | bit2L
  /-- `BIT 2,(HL)`, 0xCB56, R1002. -/
  | bit2MemHL
  /-- `BIT 2,A`, 0xCB57, R1001. -/
  | bit2A
  /-- `BIT 3,B`, 0xCB58, R1001. -/
  | bit3B
  /-- `BIT 3,C`, 0xCB59, R1001. -/
  | bit3C
  /-- `BIT 3,D`, 0xCB5A, R1001. -/
  | bit3D
  /-- `BIT 3,E`, 0xCB5B, R1001. -/
  | bit3E
  /-- `BIT 3,H`, 0xCB5C, R1001. -/
  | bit3H
  /-- `BIT 3,L`, 0xCB5D, R1001. -/
  | bit3L
  /-- `BIT 3,(HL)`, 0xCB5E, R1002. -/
  | bit3MemHL
  /-- `BIT 3,A`, 0xCB5F, R1001. -/
  | bit3A
  /-- `BIT 4,B`, 0xCB60, R1001. -/
  | bit4B
  /-- `BIT 4,C`, 0xCB61, R1001. -/
  | bit4C
  /-- `BIT 4,D`, 0xCB62, R1001. -/
  | bit4D
  /-- `BIT 4,E`, 0xCB63, R1001. -/
  | bit4E
  /-- `BIT 4,H`, 0xCB64, R1001. -/
  | bit4H
  /-- `BIT 4,L`, 0xCB65, R1001. -/
  | bit4L
  /-- `BIT 4,(HL)`, 0xCB66, R1002. -/
  | bit4MemHL
  /-- `BIT 4,A`, 0xCB67, R1001. -/
  | bit4A
  /-- `BIT 5,B`, 0xCB68, R1001. -/
  | bit5B
  /-- `BIT 5,C`, 0xCB69, R1001. -/
  | bit5C
  /-- `BIT 5,D`, 0xCB6A, R1001. -/
  | bit5D
  /-- `BIT 5,E`, 0xCB6B, R1001. -/
  | bit5E
  /-- `BIT 5,H`, 0xCB6C, R1001. -/
  | bit5H
  /-- `BIT 5,L`, 0xCB6D, R1001. -/
  | bit5L
  /-- `BIT 5,(HL)`, 0xCB6E, R1002. -/
  | bit5MemHL
  /-- `BIT 5,A`, 0xCB6F, R1001. -/
  | bit5A
  /-- `BIT 6,B`, 0xCB70, R1001. -/
  | bit6B
  /-- `BIT 6,C`, 0xCB71, R1001. -/
  | bit6C
  /-- `BIT 6,D`, 0xCB72, R1001. -/
  | bit6D
  /-- `BIT 6,E`, 0xCB73, R1001. -/
  | bit6E
  /-- `BIT 6,H`, 0xCB74, R1001. -/
  | bit6H
  /-- `BIT 6,L`, 0xCB75, R1001. -/
  | bit6L
  /-- `BIT 6,(HL)`, 0xCB76, R1002. -/
  | bit6MemHL
  /-- `BIT 6,A`, 0xCB77, R1001. -/
  | bit6A
  /-- `BIT 7,B`, 0xCB78, R1001. -/
  | bit7B
  /-- `BIT 7,C`, 0xCB79, R1001. -/
  | bit7C
  /-- `BIT 7,D`, 0xCB7A, R1001. -/
  | bit7D
  /-- `BIT 7,E`, 0xCB7B, R1001. -/
  | bit7E
  /-- `BIT 7,H`, 0xCB7C, R1001. -/
  | bit7H
  /-- `BIT 7,L`, 0xCB7D, R1001. -/
  | bit7L
  /-- `BIT 7,(HL)`, 0xCB7E, R1002. -/
  | bit7MemHL
  /-- `BIT 7,A`, 0xCB7F, R1001. -/
  | bit7A
  /-- `RES 0,B`, 0xCB80, R1003. -/
  | res0B
  /-- `RES 0,C`, 0xCB81, R1003. -/
  | res0C
  /-- `RES 0,D`, 0xCB82, R1003. -/
  | res0D
  /-- `RES 0,E`, 0xCB83, R1003. -/
  | res0E
  /-- `RES 0,H`, 0xCB84, R1003. -/
  | res0H
  /-- `RES 0,L`, 0xCB85, R1003. -/
  | res0L
  /-- `RES 0,(HL)`, 0xCB86, R1004. -/
  | res0MemHL
  /-- `RES 0,A`, 0xCB87, R1003. -/
  | res0A
  /-- `RES 1,B`, 0xCB88, R1003. -/
  | res1B
  /-- `RES 1,C`, 0xCB89, R1003. -/
  | res1C
  /-- `RES 1,D`, 0xCB8A, R1003. -/
  | res1D
  /-- `RES 1,E`, 0xCB8B, R1003. -/
  | res1E
  /-- `RES 1,H`, 0xCB8C, R1003. -/
  | res1H
  /-- `RES 1,L`, 0xCB8D, R1003. -/
  | res1L
  /-- `RES 1,(HL)`, 0xCB8E, R1004. -/
  | res1MemHL
  /-- `RES 1,A`, 0xCB8F, R1003. -/
  | res1A
  /-- `RES 2,B`, 0xCB90, R1003. -/
  | res2B
  /-- `RES 2,C`, 0xCB91, R1003. -/
  | res2C
  /-- `RES 2,D`, 0xCB92, R1003. -/
  | res2D
  /-- `RES 2,E`, 0xCB93, R1003. -/
  | res2E
  /-- `RES 2,H`, 0xCB94, R1003. -/
  | res2H
  /-- `RES 2,L`, 0xCB95, R1003. -/
  | res2L
  /-- `RES 2,(HL)`, 0xCB96, R1004. -/
  | res2MemHL
  /-- `RES 2,A`, 0xCB97, R1003. -/
  | res2A
  /-- `RES 3,B`, 0xCB98, R1003. -/
  | res3B
  /-- `RES 3,C`, 0xCB99, R1003. -/
  | res3C
  /-- `RES 3,D`, 0xCB9A, R1003. -/
  | res3D
  /-- `RES 3,E`, 0xCB9B, R1003. -/
  | res3E
  /-- `RES 3,H`, 0xCB9C, R1003. -/
  | res3H
  /-- `RES 3,L`, 0xCB9D, R1003. -/
  | res3L
  /-- `RES 3,(HL)`, 0xCB9E, R1004. -/
  | res3MemHL
  /-- `RES 3,A`, 0xCB9F, R1003. -/
  | res3A
  /-- `RES 4,B`, 0xCBA0, R1003. -/
  | res4B
  /-- `RES 4,C`, 0xCBA1, R1003. -/
  | res4C
  /-- `RES 4,D`, 0xCBA2, R1003. -/
  | res4D
  /-- `RES 4,E`, 0xCBA3, R1003. -/
  | res4E
  /-- `RES 4,H`, 0xCBA4, R1003. -/
  | res4H
  /-- `RES 4,L`, 0xCBA5, R1003. -/
  | res4L
  /-- `RES 4,(HL)`, 0xCBA6, R1004. -/
  | res4MemHL
  /-- `RES 4,A`, 0xCBA7, R1003. -/
  | res4A
  /-- `RES 5,B`, 0xCBA8, R1003. -/
  | res5B
  /-- `RES 5,C`, 0xCBA9, R1003. -/
  | res5C
  /-- `RES 5,D`, 0xCBAA, R1003. -/
  | res5D
  /-- `RES 5,E`, 0xCBAB, R1003. -/
  | res5E
  /-- `RES 5,H`, 0xCBAC, R1003. -/
  | res5H
  /-- `RES 5,L`, 0xCBAD, R1003. -/
  | res5L
  /-- `RES 5,(HL)`, 0xCBAE, R1004. -/
  | res5MemHL
  /-- `RES 5,A`, 0xCBAF, R1003. -/
  | res5A
  /-- `RES 6,B`, 0xCBB0, R1003. -/
  | res6B
  /-- `RES 6,C`, 0xCBB1, R1003. -/
  | res6C
  /-- `RES 6,D`, 0xCBB2, R1003. -/
  | res6D
  /-- `RES 6,E`, 0xCBB3, R1003. -/
  | res6E
  /-- `RES 6,H`, 0xCBB4, R1003. -/
  | res6H
  /-- `RES 6,L`, 0xCBB5, R1003. -/
  | res6L
  /-- `RES 6,(HL)`, 0xCBB6, R1004. -/
  | res6MemHL
  /-- `RES 6,A`, 0xCBB7, R1003. -/
  | res6A
  /-- `RES 7,B`, 0xCBB8, R1003. -/
  | res7B
  /-- `RES 7,C`, 0xCBB9, R1003. -/
  | res7C
  /-- `RES 7,D`, 0xCBBA, R1003. -/
  | res7D
  /-- `RES 7,E`, 0xCBBB, R1003. -/
  | res7E
  /-- `RES 7,H`, 0xCBBC, R1003. -/
  | res7H
  /-- `RES 7,L`, 0xCBBD, R1003. -/
  | res7L
  /-- `RES 7,(HL)`, 0xCBBE, R1004. -/
  | res7MemHL
  /-- `RES 7,A`, 0xCBBF, R1003. -/
  | res7A
  /-- `SET 0,B`, 0xCBC0, R1005. -/
  | set0B
  /-- `SET 0,C`, 0xCBC1, R1005. -/
  | set0C
  /-- `SET 0,D`, 0xCBC2, R1005. -/
  | set0D
  /-- `SET 0,E`, 0xCBC3, R1005. -/
  | set0E
  /-- `SET 0,H`, 0xCBC4, R1005. -/
  | set0H
  /-- `SET 0,L`, 0xCBC5, R1005. -/
  | set0L
  /-- `SET 0,(HL)`, 0xCBC6, R1006. -/
  | set0MemHL
  /-- `SET 0,A`, 0xCBC7, R1005. -/
  | set0A
  /-- `SET 1,B`, 0xCBC8, R1005. -/
  | set1B
  /-- `SET 1,C`, 0xCBC9, R1005. -/
  | set1C
  /-- `SET 1,D`, 0xCBCA, R1005. -/
  | set1D
  /-- `SET 1,E`, 0xCBCB, R1005. -/
  | set1E
  /-- `SET 1,H`, 0xCBCC, R1005. -/
  | set1H
  /-- `SET 1,L`, 0xCBCD, R1005. -/
  | set1L
  /-- `SET 1,(HL)`, 0xCBCE, R1006. -/
  | set1MemHL
  /-- `SET 1,A`, 0xCBCF, R1005. -/
  | set1A
  /-- `SET 2,B`, 0xCBD0, R1005. -/
  | set2B
  /-- `SET 2,C`, 0xCBD1, R1005. -/
  | set2C
  /-- `SET 2,D`, 0xCBD2, R1005. -/
  | set2D
  /-- `SET 2,E`, 0xCBD3, R1005. -/
  | set2E
  /-- `SET 2,H`, 0xCBD4, R1005. -/
  | set2H
  /-- `SET 2,L`, 0xCBD5, R1005. -/
  | set2L
  /-- `SET 2,(HL)`, 0xCBD6, R1006. -/
  | set2MemHL
  /-- `SET 2,A`, 0xCBD7, R1005. -/
  | set2A
  /-- `SET 3,B`, 0xCBD8, R1005. -/
  | set3B
  /-- `SET 3,C`, 0xCBD9, R1005. -/
  | set3C
  /-- `SET 3,D`, 0xCBDA, R1005. -/
  | set3D
  /-- `SET 3,E`, 0xCBDB, R1005. -/
  | set3E
  /-- `SET 3,H`, 0xCBDC, R1005. -/
  | set3H
  /-- `SET 3,L`, 0xCBDD, R1005. -/
  | set3L
  /-- `SET 3,(HL)`, 0xCBDE, R1006. -/
  | set3MemHL
  /-- `SET 3,A`, 0xCBDF, R1005. -/
  | set3A
  /-- `SET 4,B`, 0xCBE0, R1005. -/
  | set4B
  /-- `SET 4,C`, 0xCBE1, R1005. -/
  | set4C
  /-- `SET 4,D`, 0xCBE2, R1005. -/
  | set4D
  /-- `SET 4,E`, 0xCBE3, R1005. -/
  | set4E
  /-- `SET 4,H`, 0xCBE4, R1005. -/
  | set4H
  /-- `SET 4,L`, 0xCBE5, R1005. -/
  | set4L
  /-- `SET 4,(HL)`, 0xCBE6, R1006. -/
  | set4MemHL
  /-- `SET 4,A`, 0xCBE7, R1005. -/
  | set4A
  /-- `SET 5,B`, 0xCBE8, R1005. -/
  | set5B
  /-- `SET 5,C`, 0xCBE9, R1005. -/
  | set5C
  /-- `SET 5,D`, 0xCBEA, R1005. -/
  | set5D
  /-- `SET 5,E`, 0xCBEB, R1005. -/
  | set5E
  /-- `SET 5,H`, 0xCBEC, R1005. -/
  | set5H
  /-- `SET 5,L`, 0xCBED, R1005. -/
  | set5L
  /-- `SET 5,(HL)`, 0xCBEE, R1006. -/
  | set5MemHL
  /-- `SET 5,A`, 0xCBEF, R1005. -/
  | set5A
  /-- `SET 6,B`, 0xCBF0, R1005. -/
  | set6B
  /-- `SET 6,C`, 0xCBF1, R1005. -/
  | set6C
  /-- `SET 6,D`, 0xCBF2, R1005. -/
  | set6D
  /-- `SET 6,E`, 0xCBF3, R1005. -/
  | set6E
  /-- `SET 6,H`, 0xCBF4, R1005. -/
  | set6H
  /-- `SET 6,L`, 0xCBF5, R1005. -/
  | set6L
  /-- `SET 6,(HL)`, 0xCBF6, R1006. -/
  | set6MemHL
  /-- `SET 6,A`, 0xCBF7, R1005. -/
  | set6A
  /-- `SET 7,B`, 0xCBF8, R1005. -/
  | set7B
  /-- `SET 7,C`, 0xCBF9, R1005. -/
  | set7C
  /-- `SET 7,D`, 0xCBFA, R1005. -/
  | set7D
  /-- `SET 7,E`, 0xCBFB, R1005. -/
  | set7E
  /-- `SET 7,H`, 0xCBFC, R1005. -/
  | set7H
  /-- `SET 7,L`, 0xCBFD, R1005. -/
  | set7L
  /-- `SET 7,(HL)`, 0xCBFE, R1006. -/
  | set7MemHL
  /-- `SET 7,A`, 0xCBFF, R1005. -/
  | set7A
deriving DecidableEq, Repr

end Sys2Proof
end

