-- ==== Sys2Proof/Machine/State.lean ====
section
/-! DEFINITION. The state of the machine (10_state.md R100), the reasons a step can stop (60_exceptions.md R1300), and the state
right after reset (70_reset_and_hazards.md R1501). -/

namespace Sys2Proof.Machine

/-- Sparse contents of a numbered storage: pairs of an index and its value. An index that is not listed reads as the storage's
unlisted value (Config); the canonical form is `Store.wf` of Machine/Store.lean. -/
abbrev Store (w : Nat) := List (Nat × BitVec w)

/-- A byte storage. -/
abbrev Memory := List Host.Cell

/-- The seven directly held registers (R101). -/
structure Regs where
  a : Byte
  b : Byte
  c : Byte
  d : Byte
  e : Byte
  h : Byte
  l : Byte
deriving DecidableEq, Repr

/-- The four condition flags (R102); the byte F is a view of them (R103). -/
structure Flags where
  z : Bool
  n : Bool
  h : Bool
  c : Bool
deriving DecidableEq, Repr

/-- The banking-mode flag (R125). -/
inductive BankingMode where
  | romBanking
  | ramBanking
deriving DecidableEq, Repr

/-- The bank controller's five items (R125). -/
structure Bank where
  romBank : BitVec 7
  ramBank : BitVec 2
  ramEnabled : Bool
  bankingMode : BankingMode
  ram : Memory
deriving DecidableEq, Repr

/-- The PPU's own state (R130, R131); the phase stands in STAT, and a framebuffer cell `(row, column)` has index
`row * 256 + column`. -/
structure Ppu where
  line : Nat
  rendered : Bool
  vblankFired : Bool
  fbActive : Store 2
  fbPresented : Store 2
deriving DecidableEq, Repr

/-- The parameters of the session (00_scope.md R9, R100: "parameters, not state"): the ROM image `P_ROM` as sparse bytes and its
length, and the decoded opcodes that a restricted `P_HANDLER_SET` leaves without a handler besides STOP (D31). No step changes
them. DESIGN CHOICE, safe (log 1, log 8): they are carried in the state, since `step` has no other argument. -/
structure Cart where
  rom : Memory
  romLen : Nat
  unhandled : List (BitVec 16)
deriving DecidableEq, Repr

/-- The Fault record of R1300. -/
inductive FaultRecord where
  | pcRange (value : Int)
  | spRange (value : Int)
  | romBounds (addr : Word) (index : Nat)
  | undefinedOpcode (opcode : Byte) (pc : Word)
deriving DecidableEq, Repr

/-- The whole state (R100), the session's parameters, and two fields of the model's own (`stepCycles`, `extReq`). -/
structure State where
  /-- A, B, C, D, E, H, L (R101) -/
  regs : Regs
  /-- fZ, fN, fH, fC (R102) -/
  flags : Flags
  /-- PC (R105) -/
  pc : Word
  /-- SP (R106) -/
  sp : Word
  /-- the global interrupt-enable latch (R109) -/
  ime : Bool
  /-- the halted state (R110) -/
  halted : Bool
  /-- the diagnostic flag (R111) -/
  unimplementedSeen : Bool
  /-- the raw 65536-byte bus, IF, IE, LCDC, STAT, SCY, SCX, LY, LYC, DMA, BGP, WY and WX among its bytes (R120, R121) -/
  bus : Memory
  /-- the bank controller (R125) -/
  bank : Bank
  /-- the PPU (R130, R131) -/
  ppu : Ppu
  /-- the cumulative cycle count within the frame (R130, R1360) -/
  frameCycles : Nat
  /-- the terminal fault record (R132) -/
  fault : Option FaultRecord
  /-- the session's parameters -/
  cart : Cart
  /-- MODEL: the cycle count the last CPU step returned (R401, R1535). DESIGN CHOICE, safe (log 6) -/
  stepCycles : Nat
  /-- MODEL: the host's `extReq` inputs of the coming steps, the next step's first; none left means 0 (R1315). DESIGN CHOICE,
  safe (log 5) -/
  extReq : List (BitVec 5)
deriving DecidableEq, Repr

/-- Why the machine stopped: the four fault kinds of R1300, each with its information and with the terminal state it leaves
(R1301: "Effects the faulting instruction made before the fault stay in the state"). Every one is the spec's own fatal fault,
so stopping on it is what the machine does: safe. -/
inductive Fault where
  /-- Code 1. Raised by an assignment of PC outside 0 to 0xFFFF: the sequential advance (R406), the prefix check (R403), JR and
  JR cc targets (R1104, R1105), the HALT skip (R1202). Safe. -/
  | pcRange (value : Int) (final : State)
  /-- Code 2. Raised by an assignment of SP outside 0 to 0xFFFF: Push16 and Pop16 (R600), INC SP, DEC SP (R802, R803),
  ADD SP,r8 (R804), interrupt delivery (R1320). Safe. -/
  | spRange (value : Int) (final : State)
  /-- Code 3. Raised by a CPU read of 0x0000 to 0x7FFF past the ROM image (R236). Safe. -/
  | romBounds (addr : Word) (index : Nat) (final : State)
  /-- Code 4. Raised by decoding a byte with no table entry (R404, R307). Safe. -/
  | undefinedOpcode (opcode : Byte) (pc : Word) (final : State)
deriving Repr

/-- Why an instruction has no meaning in the model. -/
inductive Refusal where
  /-- Raised by an arm of `exec` whose instruction the model does not give a meaning. Safe: nothing is claimed of it. No arm
  raises it: every instruction has its meaning. -/
  | notModelled (mnemonic : String)
deriving DecidableEq, Repr

/-- The state right after reset: R1501, with the default `P_RESET_REGS`, the blank ROM image (log 1) and every unspecified
byte and cell at its unlisted value (logs 2, 3, 4). STAT bits 1 to 0 = 2 is the unlisted value of 0xFF41. -/
def State.reset : State where
  regs := { a := 0x01, b := 0x00, c := 0x13, d := 0x00, e := 0xD8, h := 0x01, l := 0x4D }
  flags := { z := true, n := false, h := true, c := true }
  pc := 0x0100
  sp := 0xFFFE
  ime := false
  halted := false
  unimplementedSeen := false
  bus := []
  bank := { romBank := 1, ramBank := 0, ramEnabled := false, bankingMode := .romBanking, ram := [] }
  ppu := { line := 0, rendered := false, vblankFired := false, fbActive := [], fbPresented := [] }
  frameCycles := 0
  fault := none
  cart := { rom := [], romLen := Config.resetRomLen, unhandled := [] }
  stepCycles := 0
  extReq := []

end Sys2Proof.Machine
end

