-- ==== Sys2Proof/Machine/Store.lean ====
section
/-! DEFINITION. The sparse storage under the bus, the external RAM, the ROM image and the framebuffers: read one index, write one
index, and the canonical form every write keeps. -/

namespace Sys2Proof.Machine

/-- The value at index `i`: the listed one, else the unlisted one. -/
def Store.read {w : Nat} (unlisted : Nat → BitVec w) (m : Store w) (i : Nat) : BitVec w :=
  match m with
  | [] => unlisted i
  | (k, v) :: rest => if k = i then v else Store.read unlisted rest i

/-- List `v` at index `i`, in index order, in place of what was listed there. -/
def Store.insert {w : Nat} (m : Store w) (i : Nat) (v : BitVec w) : Store w :=
  match m with
  | [] => [(i, v)]
  | (k, u) :: rest =>
    if i < k then (i, v) :: (k, u) :: rest
    else if k = i then (i, v) :: rest
    else (k, u) :: Store.insert rest i v

/-- Take index `i` out of the list. -/
def Store.erase {w : Nat} (m : Store w) (i : Nat) : Store w := m.filter fun c => c.1 ≠ i

/-- Write `v` at index `i`, keeping the canonical form: the unlisted value is never listed. -/
def Store.write {w : Nat} (unlisted : Nat → BitVec w) (m : Store w) (i : Nat) (v : BitVec w) : Store w :=
  if v = unlisted i then Store.erase m i else Store.insert m i v

/-- The canonical form from index `lo` on: indexes strictly rising from `lo`, below `bound`, no value equal to the unlisted
one. -/
def Store.wfFrom {w : Nat} (unlisted : Nat → BitVec w) (bound lo : Nat) (m : Store w) : Bool :=
  match m with
  | [] => true
  | (k, v) :: rest =>
    decide (lo ≤ k) && decide (k < bound) && decide (v ≠ unlisted k) && Store.wfFrom unlisted bound (k + 1) rest

/-- The canonical form of a storage of `bound` cells. -/
def Store.wf {w : Nat} (unlisted : Nat → BitVec w) (bound : Nat) (m : Store w) : Bool := Store.wfFrom unlisted bound 0 m

/-- The canonical form of a byte storage. -/
def Memory.wf (unlisted : Nat → Byte) (bound : Nat) (m : Memory) : Bool := Store.wf unlisted bound m

end Sys2Proof.Machine
end

