-- ==== Sys2Proof/Machine/Ops.lean ====
section
/-! DEFINITION. The named operations over memory, PC, SP and the stack, raising a fault, and taking an interrupt and returning
from one: 20_memory.md, 42_load16.md R600, 60_exceptions.md R1301 and R1320. -/

namespace Sys2Proof.Machine

/-- What a meaning answers. -/
abbrev Result := Host.Outcome State Fault Refusal

/-- Go on from a next state; a fault or a refusal ends the step (R1301). -/
def andThen (r : Result) (k : State → Result) : Result :=
  match r with
  | .next s => k s
  | .fault f => .fault f
  | .refused q => .refused q

/-! ## Faults -/

/-- The numeric code of a fault record (R1300). -/
def FaultRecord.code : FaultRecord → Nat
  | .pcRange _ => 1
  | .spRange _ => 2
  | .romBounds _ _ => 3
  | .undefinedOpcode _ _ => 4

/-- The stop of a machine whose terminal state is `t`. -/
def FaultRecord.stop (r : FaultRecord) (t : State) : Fault :=
  match r with
  | .pcRange v => .pcRange v t
  | .spRange v => .spRange v t
  | .romBounds a i => .romBounds a i t
  | .undefinedOpcode o p => .undefinedOpcode o p t

/-- `raise Fault(kind, info)` (R1301): `fault` is set, everything done so far stays, and the machine stops. -/
def raise (r : FaultRecord) (s : State) : Result := .fault (r.stop { s with fault := some r })

/-! ## The ROM image and its header -/

/-- Byte `i` of `P_ROM`. -/
def Cart.byte (c : Cart) (i : Nat) : Byte := Store.read Config.romUnlisted c.rom i

/-- `P_RAM_SIZE`: the bytes of external RAM, from the header's code (R237). A code that is a load-time failure (R239) counts as
no external RAM: no session has such an image. DESIGN CHOICE, safe (log 13). -/
def Cart.ramSize (c : Cart) : Nat := (Params.ramSizeOfCode (c.byte Params.headerRamOffset)).getD 0

/-! ## The raw bus (R201 to R206) -/

/-- `BusRead(addr)` (R201). -/
def State.busRead (s : State) (addr : Nat) : Byte := Store.read Config.busUnlisted s.bus addr

/-- A raw store into `bus`, past R202 (R206). -/
def State.busPoke (addr : Nat) (v : Byte) (s : State) : State :=
  { s with bus := Store.write Config.busUnlisted s.bus addr v }

/-- A CPU write to STAT keeps bits 1 to 0 (R203). -/
def State.statWrite (v : Byte) (s : State) : State :=
  s.busPoke Params.addrSTAT ((v &&& 0xFC) ||| (s.busRead Params.addrSTAT &&& 0x03))

/-- The first `n` bytes of the DMA copy from raw bus address `src`, in ascending order (R205). -/
def dmaCopy (src : Nat) (n : Nat) (s : State) : State :=
  match n with
  | 0 => s
  | k + 1 =>
    let s := dmaCopy src k s
    s.busPoke (Params.addrOAM + k) (s.busRead (src + k))

/-- A CPU write to the DMA trigger stores the page and copies `P_DMA_LENGTH` raw bus bytes (R205). -/
def State.dmaWrite (v : Byte) (s : State) : State :=
  dmaCopy (v.toNat * 256) Params.dmaLength (s.busPoke Params.addrDMA v)

/-- `BusWrite(addr, v)` (R202). -/
def State.busWrite (addr : Nat) (v : Byte) (s : State) : State :=
  if addr = Params.addrSTAT then s.statWrite v
  else if addr = Params.addrLY then s
  else if addr = Params.addrDMA then s.dmaWrite v
  else s.busPoke addr v

/-! ## The bank controller (R220 to R236) -/

/-- `RamEnableWrite(v)` (R230). -/
def Bank.ramEnableWrite (v : Byte) (b : Bank) : Bank :=
  { b with ramEnabled := v.extractLsb' 0 4 == Params.ramEnableCode }

/-- `RomBankWrite(v)` (R231): the five low bits, 0 remapped to 1. -/
def Bank.romBankWrite (v : Byte) (b : Bank) : Bank :=
  let low : BitVec 5 := v.extractLsb' 0 5
  let low := if low = 0 then 1 else low
  { b with romBank := (b.romBank &&& 0x60) ||| low.setWidth 7 }

/-- `Bank2Write(v)` (R232): ROM bank bits 6 to 5 in ROM-banking mode, else the RAM bank. -/
def Bank.bank2Write (v : Byte) (b : Bank) : Bank :=
  let two : BitVec 2 := v.extractLsb' 0 2
  match b.bankingMode with
  | .romBanking => { b with romBank := (b.romBank &&& 0x1F) ||| (two.setWidth 7 <<< 5) }
  | .ramBanking => { b with ramBank := two }

/-- `ModeWrite(v)` (R233): bit 0 selects the mode, and entering ROM-banking mode zeroes the RAM bank. -/
def Bank.modeWrite (v : Byte) (b : Bank) : Bank :=
  if v.getLsbD 0 then { b with bankingMode := .ramBanking }
  else { b with bankingMode := .romBanking, ramBank := 0 }

/-- `ExtRamIndex(addr)` (R234). -/
def State.extRamIndex (s : State) (addr : Nat) : Nat := s.bank.ramBank.toNat * 0x2000 + (addr - 0xA000)

/-- Whether an external-RAM access reaches the buffer (R234). -/
def State.extRamReached (s : State) (addr : Nat) : Bool :=
  s.bank.ramEnabled && decide (s.extRamIndex addr < s.cart.ramSize)

/-- `ExtRamRead(addr)` (R234). -/
def State.extRamRead (s : State) (addr : Nat) : Byte :=
  if s.extRamReached addr then Store.read Config.ramUnlisted s.bank.ram (s.extRamIndex addr) else 0xFF

/-- `ExtRamWrite(addr, v)` (R234). -/
def State.extRamWrite (addr : Nat) (v : Byte) (s : State) : State :=
  if s.extRamReached addr then
    { s with bank := { s.bank with ram := Store.write Config.ramUnlisted s.bank.ram (s.extRamIndex addr) v } }
  else s

/-- The ROM index a CPU address in 0x0000 to 0x7FFF reads (R235, R236). -/
def State.romIndex (s : State) (addr : Nat) : Nat :=
  if addr < 0x4000 then addr else s.bank.romBank.toNat * 0x4000 + (addr - 0x4000)

/-- `RomRead` with its bounds check (R236). -/
def State.romRead (s : State) (addr : Word) : Except FaultRecord Byte :=
  let i := s.romIndex addr.toNat
  if i < s.cart.romLen then .ok (s.cart.byte i) else .error (.romBounds addr i)

/-- `MemRead(addr, 1)` (R220). -/
def State.memRead (s : State) (addr : Word) : Except FaultRecord Byte :=
  if addr.toNat < 0x8000 then s.romRead addr
  else if 0xA000 ≤ addr.toNat ∧ addr.toNat < 0xC000 then .ok (s.extRamRead addr.toNat)
  else .ok (s.busRead addr.toNat)

/-- `MemWrite(addr, 1, v)` (R221). -/
def State.memWrite (addr : Word) (v : Byte) (s : State) : State :=
  if addr.toNat < 0x2000 then { s with bank := s.bank.ramEnableWrite v }
  else if addr.toNat < 0x4000 then { s with bank := s.bank.romBankWrite v }
  else if addr.toNat < 0x6000 then { s with bank := s.bank.bank2Write v }
  else if addr.toNat < 0x8000 then { s with bank := s.bank.modeWrite v }
  else if 0xA000 ≤ addr.toNat ∧ addr.toNat < 0xC000 then s.extRamWrite addr.toNat v
  else s.busWrite addr.toNat v

/-- Read a byte and go on with it, or raise the read's fault in `s`. -/
def load (addr : Word) (s : State) (k : Byte → Result) : Result :=
  match s.memRead addr with
  | .ok v => k v
  | .error f => raise f s

/-- A 16-bit store (R13): the low byte at `addr`, then the high byte at `trunc16(addr + 1)`. -/
def State.memWrite16 (addr : Word) (v : Word) (s : State) : State :=
  (s.memWrite addr (loByte v)).memWrite (addr + 1) (hiByte v)

/-! ## PC and SP (R105, R106) -/

/-- `pc <- v`, range-checked (R105). -/
def assignPC (v : Int) (s : State) : Result :=
  if 0 ≤ v ∧ v ≤ 0xFFFF then .next { s with pc := trunc16 v } else raise (.pcRange v) s

/-- `sp <- v`, range-checked (R106). -/
def assignSP (v : Int) (s : State) : Result :=
  if 0 ≤ v ∧ v ≤ 0xFFFF then .next { s with sp := trunc16 v } else raise (.spRange v) s

/-! ## The stack (R600) -/

/-- `Push16(v)`: SP checked before any write, the high byte at SP-1, the low byte at SP-2. -/
def push16 (v : Word) (s : State) : Result :=
  if s.sp.toNat < 2 then raise (.spRange (s.sp.toNat - 2)) s
  else
    andThen (assignSP (s.sp.toNat - 1) s) fun s =>
    let s := s.memWrite s.sp (hiByte v)
    andThen (assignSP (s.sp.toNat - 1) s) fun s =>
    .next (s.memWrite s.sp (loByte v))

/-- `Pop16()`: SP checked before any read, the low byte at SP, the high byte at SP+1. -/
def pop16 (s : State) (k : Word → State → Result) : Result :=
  if 0xFFFF < s.sp.toNat + 2 then raise (.spRange (s.sp.toNat + 2)) s
  else
    load s.sp s fun lo =>
    load (s.sp + 1) s fun hi =>
    andThen (assignSP (s.sp.toNat + 2) s) fun s =>
    k (wordOf hi lo) s

/-! ## Taking an interrupt and returning from one (R1320, R1110) -/

/-- `CpuInterrupt(vector)` (R1320): a no-op with IME = 0; else halted and IME are cleared, PC is pushed and PC becomes the
vector. -/
def takeInterrupt (vector : Word) (s : State) : Result :=
  if s.ime then
    let s := { s with halted := false, ime := false }
    andThen (push16 s.pc s) (assignPC vector.toNat)
  else .next s

/-- `pc <- Pop16()` (R1108). -/
def popPC (s : State) : Result := pop16 s fun target s => assignPC target.toNat s

/-- The return from an interrupt (R1110): PC is popped and IME is set. -/
def returnFromInterrupt (s : State) : Result := andThen (popPC s) fun s => .next { s with ime := true }

/-! ## The frame of one instruction (R406, R408, R409) -/

/-- The CPU step returns the cycle count `c` (R409). -/
def State.returnCycles (c : Nat) (s : State) : State := { s with stepCycles := c }

/-- An unconditional instruction: PC becomes `PC0 + len` before its rule runs (R406), and it costs `cost` (R409). -/
def execute (len cost : Nat) (rule : State → Result) (s : State) : Result :=
  andThen (assignPC (s.pc.toNat + len) s) fun s =>
  andThen (rule s) fun s =>
  .next (s.returnCycles cost)

/-- A conditional instruction (R409, R1100): `cost` when the condition holds, else `notTaken` and nothing but the advance. -/
def executeIf (len cost notTaken : Nat) (cond : State → Bool) (rule : State → Result) (s : State) : Result :=
  andThen (assignPC (s.pc.toNat + len) s) fun s =>
  if cond s then andThen (rule s) fun s => .next (s.returnCycles cost)
  else .next (s.returnCycles notTaken)

/-- The unimplemented path (R407): the diagnostic flag is set and PC advances; nothing else. -/
def unimplemented (len cost : Nat) (s : State) : Result :=
  andThen (assignPC (s.pc.toNat + len) s) fun s =>
  .next ({ s with unimplementedSeen := true }.returnCycles cost)

end Sys2Proof.Machine
end

