-- ==== Sys2Proof/Machine/Operands.lean ====
section
/-! DEFINITION. Every operand form: the registers and pairs (10_state.md R101 to R104, 30_encoding.md R303), the flag byte, the
condition codes (R1100), and the effective addresses of 41_load8.md. -/

namespace Sys2Proof.Machine

/-- `x[r]` (R12). -/
def Regs.get (g : Regs) : Reg8 → Byte
  | .b => g.b
  | .c => g.c
  | .d => g.d
  | .e => g.e
  | .h => g.h
  | .l => g.l
  | .a => g.a

/-- `x[r] <- v` (R12). -/
def Regs.set (g : Regs) (r : Reg8) (v : Byte) : Regs :=
  match r with
  | .b => { g with b := v }
  | .c => { g with c := v }
  | .d => { g with d := v }
  | .e => { g with e := v }
  | .h => { g with h := v }
  | .l => { g with l := v }
  | .a => { g with a := v }

/-- `x[r] <- v` in the state. -/
def State.setReg (r : Reg8) (v : Byte) (s : State) : State := { s with regs := s.regs.set r v }

/-- All four flags written. -/
def State.setFlags (f : Flags) (s : State) : State := { s with flags := f }

/-- Reading F (R103): fZ, fN, fH, fC in bits 7 to 4, bits 3 to 0 zero. -/
def Flags.toByte (f : Flags) : Byte :=
  BitVec.ofBool f.z ++ BitVec.ofBool f.n ++ BitVec.ofBool f.h ++ BitVec.ofBool f.c ++ (0 : BitVec 4)

/-- Writing F (R103): bits 7 to 4 to the flags, bits 3 to 0 dropped. -/
def Flags.ofByte (v : Byte) : Flags where
  z := v.getLsbD 7
  n := v.getLsbD 6
  h := v.getLsbD 5
  c := v.getLsbD 4

/-- `{B, C}`, `{D, E}`, `{H, L}` (R104). -/
def Regs.bc (g : Regs) : Word := wordOf g.b g.c
/-- `{D, E}` (R104). -/
def Regs.de (g : Regs) : Word := wordOf g.d g.e
/-- `{H, L}` (R104). -/
def Regs.hl (g : Regs) : Word := wordOf g.h g.l

/-- `{H, L} <- v` (R104). -/
def State.setHL (v : Word) (s : State) : State := { s with regs := { s.regs with h := hiByte v, l := loByte v } }

/-- `rp[p]` (R104). -/
def State.pair (s : State) : Pair → Word
  | .bc => s.regs.bc
  | .de => s.regs.de
  | .hl => s.regs.hl
  | .sp => s.sp

/-- `rp[p] <- v` for a 16-bit value v (R104, R106: such a value is in SP's range). -/
def State.setPair (p : Pair) (v : Word) (s : State) : State :=
  match p with
  | .bc => { s with regs := { s.regs with b := hiByte v, c := loByte v } }
  | .de => { s with regs := { s.regs with d := hiByte v, e := loByte v } }
  | .hl => s.setHL v
  | .sp => { s with sp := v }

/-- `rp[p] <- v` for an exact integer v: BC, DE and HL wrap (R104), SP is range-checked (R106, R800). -/
def assignPair (p : Pair) (v : Int) (s : State) : Result :=
  match p with
  | .sp => assignSP v s
  | p => .next (s.setPair p (trunc16 v))

/-- `qq[p]` (R604); the low half of AF is F as read (R103). -/
def State.stackPair (s : State) : StackPair → Word
  | .bc => s.regs.bc
  | .de => s.regs.de
  | .hl => s.regs.hl
  | .af => wordOf s.regs.a s.flags.toByte

/-- `qq[p] <- v` (R605, R606); the low half of AF goes through F's setter (R103). -/
def State.setStackPair (q : StackPair) (v : Word) (s : State) : State :=
  match q with
  | .bc => s.setPair .bc v
  | .de => s.setPair .de v
  | .hl => s.setPair .hl v
  | .af => { s with regs := { s.regs with a := hiByte v }, flags := Flags.ofByte (loByte v) }

/-- `Cond(cc)` (R1100). -/
def Flags.holds (f : Flags) : Cond → Bool
  | .nz => !f.z
  | .z => f.z
  | .nc => !f.c
  | .c => f.c

/-- The condition on the flags before the instruction (R1100); the sequential advance writes no flag. -/
def condHolds (cc : Cond) (s : State) : Bool := s.flags.holds cc

/-- The addresses through which A is loaded and stored without HL (R506 to R515). -/
inductive Ea where
  | bc
  | de
  | abs (a16 : Word)
  | highC
  | high (a8 : Byte)
deriving DecidableEq, Repr

/-- The effective address (R506 to R515); a high-page address is 0xFF00 plus a byte and never passes 0xFFFF (R213). -/
def State.ea (s : State) : Ea → Word
  | .bc => s.regs.bc
  | .de => s.regs.de
  | .abs a16 => a16
  | .highC => wordOf 0xFF s.regs.c
  | .high a8 => wordOf 0xFF a8

/-- Post-increment or post-decrement of HL (R516 to R519). -/
inductive HLStep where
  | inc
  | dec
deriving DecidableEq, Repr

/-- `trunc16(ea + 1)` or `trunc16(ea - 1)` (R213). -/
def HLStep.apply (dir : HLStep) (ea : Word) : Word :=
  match dir with
  | .inc => ea + 1
  | .dec => ea - 1

/-- The second operand of the 8-bit ALU (R701 to R724): a register, the byte at HL, an immediate. -/
inductive Source where
  | reg (r : Reg8)
  | memHL
  | imm (n : Byte)
deriving DecidableEq, Repr

/-- Read the operand and go on with it; only the byte at HL can fault (R733). -/
def withSource (src : Source) (s : State) (k : Byte → Result) : Result :=
  match src with
  | .reg r => k (s.regs.get r)
  | .memHL => load s.regs.hl s k
  | .imm n => k n

/-- The operand of the prefix space (field `r` of R303): a register, or code 6, the byte at HL. -/
inductive Target where
  | reg (r : Reg8)
  | memHL
deriving DecidableEq, Repr

/-- Read the operand, compute a new byte and new flags, write the byte back and then the flags; an (HL) form reads once and
writes once at the same address (R906, R1004). -/
def modify (t : Target) (f : Byte → Flags → Byte × Flags) (s : State) : Result :=
  match t with
  | .reg r =>
    let (v, fl) := f (s.regs.get r) s.flags
    .next ((s.setReg r v).setFlags fl)
  | .memHL =>
    load s.regs.hl s fun old =>
    let (v, fl) := f old s.flags
    .next ((s.memWrite s.regs.hl v).setFlags fl)

/-- Read the operand and write flags only (R1001, R1002). -/
def examine (t : Target) (f : Byte → Flags → Flags) (s : State) : Result :=
  match t with
  | .reg r => .next (s.setFlags (f (s.regs.get r) s.flags))
  | .memHL => load s.regs.hl s fun v => .next (s.setFlags (f v s.flags))

end Sys2Proof.Machine
end

