-- ==== Sys2Proof/Machine/Flags.lean ====
section
/-! DEFINITION. Every computation of a result with its flags: 43_alu8.md, 44_alu16.md, 45_rotate_shift.md, 46_bit.md. Operands are
turned into exact integers, and the result is narrowed at the end (00_scope.md R11, 43_alu8.md R733). -/

namespace Sys2Proof.Machine

/-- `Add8(a, b, cin)` (R700). -/
def add8 (a b : Byte) (cin : Bool) : Byte × Flags :=
  let r := a.toNat + b.toNat + cin.toNat
  let v := BitVec.ofNat 8 r
  (v, { z := v == 0, n := false, h := decide (0xF < a.toNat % 16 + b.toNat % 16 + cin.toNat), c := decide (0xFF < r) })

/-- `Sub8(a, b, cin)` (R700): fC is the borrow. -/
def sub8 (a b : Byte) (cin : Bool) : Byte × Flags :=
  let r : Int := (a.toNat : Int) - b.toNat - cin.toNat
  let v := trunc8 r
  let low : Int := ((a.toNat % 16 : Nat) : Int) - (b.toNat % 16 : Nat) - cin.toNat
  (v, { z := v == 0, n := true, h := decide (low < 0), c := decide (r < 0) })

/-- AND (R713): fH is set. -/
def and8 (a b : Byte) : Byte × Flags :=
  let v := a &&& b
  (v, { z := v == 0, n := false, h := true, c := false })

/-- XOR (R716). -/
def xor8 (a b : Byte) : Byte × Flags :=
  let v := a ^^^ b
  (v, { z := v == 0, n := false, h := false, c := false })

/-- OR (R719). -/
def or8 (a b : Byte) : Byte × Flags :=
  let v := a ||| b
  (v, { z := v == 0, n := false, h := false, c := false })

/-- The 8-bit ALU (R701 to R724): the new A and the flags. CP computes SUB's flags and keeps A (R722). -/
def alu8 (op : AluOp) (a b : Byte) (f : Flags) : Byte × Flags :=
  match op with
  | .add => add8 a b false
  | .adc => add8 a b f.c
  | .sub => sub8 a b false
  | .sbc => sub8 a b f.c
  | .and => and8 a b
  | .xor => xor8 a b
  | .or => or8 a b
  | .cp => (a, (sub8 a b false).2)

/-- INC of one byte (R725): fC kept. -/
def inc8 (v : Byte) (f : Flags) : Byte × Flags :=
  let r := v + 1
  (r, { z := r == 0, n := false, h := decide (v.toNat % 16 = 0xF), c := f.c })

/-- DEC of one byte (R727): fC kept. -/
def dec8 (v : Byte) (f : Flags) : Byte × Flags :=
  let r := v - 1
  (r, { z := r == 0, n := true, h := decide (v.toNat % 16 = 0x0), c := f.c })

/-- DAA (R729). Each test of the add branch looks at `a` as the lines before it left it. -/
def daa8 (a0 : Byte) (f : Flags) : Byte × Flags :=
  let a : Int := a0.toNat
  let (a, carry) : Int × Bool :=
    if f.n then
      let a := if f.c then a - 0x60 else a
      let a := if f.h then a - 0x06 else a
      (a, f.c)
    else
      let carry := f.c || decide (0x99 < a)
      let high := if carry then a + 0x60 else a
      let a := if f.h || decide (0x09 < high % 16) then high + 0x06 else high
      (a, carry)
  let v := trunc8 a
  (v, { z := v == 0, n := f.n, h := false, c := carry })

/-- CPL (R730). -/
def cpl8 (a : Byte) (f : Flags) : Byte × Flags := (a ^^^ 0xFF, { f with n := true, h := true })

/-- SCF (R731). -/
def scfFlags (f : Flags) : Flags := { f with n := false, h := false, c := true }

/-- CCF (R732). -/
def ccfFlags (f : Flags) : Flags := { f with n := false, h := false, c := !f.c }

/-- ADD HL,rr (R801): fH is the carry out of bit 11, fC out of bit 15, fZ kept. -/
def add16 (a b : Word) (f : Flags) : Word × Flags :=
  let r := a.toNat + b.toNat
  (BitVec.ofNat 16 r,
    { z := f.z, n := false, h := decide (0x0FFF < a.toNat % 0x1000 + b.toNat % 0x1000), c := decide (0xFFFF < r) })

/-- The flags of ADD SP,r8 and LD HL,SP+r8 (R804, R805): the carries of the unsigned low byte of SP and the raw byte. -/
def spAddFlags (sp : Word) (imm : Byte) : Flags where
  z := false
  n := false
  h := decide (0x0F < sp.toNat % 16 + imm.toNat % 16)
  c := decide (0xFF < sp.toNat % 256 + imm.toNat)

/-- `Rot(op, v)` (R900): the carry out and the result. -/
def rotShift (op : RotOp) (v : Byte) (carry : Bool) : Bool × Byte :=
  match op with
  | .rlc => (v.getLsbD 7, (v <<< 1) ||| (v >>> 7))
  | .rrc => (v.getLsbD 0, (v >>> 1) ||| (v <<< 7))
  | .rl => (v.getLsbD 7, (v <<< 1) ||| (BitVec.ofBool carry).setWidth 8)
  | .rr => (v.getLsbD 0, (v >>> 1) ||| ((BitVec.ofBool carry).setWidth 8 <<< 7))
  | .sla => (v.getLsbD 7, v <<< 1)
  | .sra => (v.getLsbD 0, (v >>> 1) ||| (v &&& 0x80))
  | .swap => (false, (v <<< 4) ||| (v >>> 4))
  | .srl => (v.getLsbD 0, v >>> 1)

/-- `Rot(op, v)` with its flags (R900). -/
def rot8 (op : RotOp) (v : Byte) (f : Flags) : Byte × Flags :=
  let (carry, r) := rotShift op v f.c
  (r, { z := r == 0, n := false, h := false, c := carry })

/-- The one-byte accumulator rotates: `Rot` and then fZ cleared (R901 to R904). -/
def rotA8 (op : RotOp) (v : Byte) (f : Flags) : Byte × Flags :=
  let (r, fl) := rot8 op v f
  (r, { fl with z := false })

/-- The byte with only bit `b` set (R1003, R1005). -/
def bitMask (b : Fin 8) : Byte := 1 <<< b.val

/-- BIT (R1001): fZ is the complement of the bit, fC kept. -/
def bitFlags (b : Fin 8) (v : Byte) (f : Flags) : Flags :=
  { z := !v.getLsbD b.val, n := false, h := true, c := f.c }

/-- RES (R1003). -/
def resBit (b : Fin 8) (v : Byte) (f : Flags) : Byte × Flags := (v &&& ~~~(bitMask b), f)

/-- SET (R1005). -/
def setBit (b : Fin 8) (v : Byte) (f : Flags) : Byte × Flags := (v ||| bitMask b, f)

end Sys2Proof.Machine
end

