-- ==== Sys2Proof/Machine/Alu16.lean ====
section
/-! DEFINITION. 16-bit arithmetic (44_alu16.md). -/

namespace Sys2Proof.Machine

/-- `{H, L} <- {H, L} + rp[p]` with fN, fH, fC (R801). -/
def addHL (p : Pair) (s : State) : Result :=
  let (v, f) := add16 s.regs.hl (s.pair p) s.flags
  .next ((s.setHL v).setFlags f)

/-- `rp[p] <- rp[p] + 1`: a pair wraps, SP is range-checked (R802). -/
def incPair (p : Pair) (s : State) : Result := assignPair p ((s.pair p).toNat + 1) s

/-- `rp[p] <- rp[p] - 1`: a pair wraps, SP is range-checked (R803). -/
def decPair (p : Pair) (s : State) : Result := assignPair p ((s.pair p).toNat - 1) s

/-- The flags, then `sp <- SP + e`, range-checked (R804). -/
def addSP (e : Byte) (s : State) : Result :=
  assignSP (s.sp.toNat + s8 e) (s.setFlags (spAddFlags s.sp e))

/-- The flags, then `{H, L} <- trunc16(SP + e)` (R805). -/
def ldHLSP (e : Byte) (s : State) : Result :=
  .next ((s.setFlags (spAddFlags s.sp e)).setHL (trunc16 (s.sp.toNat + s8 e)))

/-! ## The meanings -/

/-- `INC BC` (R802). -/
def execIncBC (s : State) : Result := execute 1 8 (incPair .bc) s

/-- `ADD HL,BC` (R801). -/
def execAddHLBC (s : State) : Result := execute 1 8 (addHL .bc) s

/-- `DEC BC` (R803). -/
def execDecBC (s : State) : Result := execute 1 8 (decPair .bc) s

/-- `INC DE` (R802). -/
def execIncDE (s : State) : Result := execute 1 8 (incPair .de) s

/-- `ADD HL,DE` (R801). -/
def execAddHLDE (s : State) : Result := execute 1 8 (addHL .de) s

/-- `DEC DE` (R803). -/
def execDecDE (s : State) : Result := execute 1 8 (decPair .de) s

/-- `INC HL` (R802). -/
def execIncHL (s : State) : Result := execute 1 8 (incPair .hl) s

/-- `ADD HL,HL` (R801). -/
def execAddHLHL (s : State) : Result := execute 1 8 (addHL .hl) s

/-- `DEC HL` (R803). -/
def execDecHL (s : State) : Result := execute 1 8 (decPair .hl) s

/-- `INC SP` (R802). -/
def execIncSP (s : State) : Result := execute 1 8 (incPair .sp) s

/-- `ADD HL,SP` (R801). -/
def execAddHLSP (s : State) : Result := execute 1 8 (addHL .sp) s

/-- `DEC SP` (R803). -/
def execDecSP (s : State) : Result := execute 1 8 (decPair .sp) s

/-- `ADD SP,r8` (R804). -/
def execAddSPR8 (e : Byte) (s : State) : Result := execute 2 16 (addSP e) s

/-- `LD HL,SP+r8` (R805). -/
def execLdHLSPR8 (e : Byte) (s : State) : Result := execute 2 12 (ldHLSP e) s

end Sys2Proof.Machine
end

