-- ==== Sys2Proof/Machine/Alu8.lean ====
section
/-! DEFINITION. 8-bit arithmetic and logic (43_alu8.md). -/

namespace Sys2Proof.Machine

/-- `A <- op(A, operand)` with its flags; CP writes the flags only (R701 to R724). -/
def aluA (op : AluOp) (src : Source) (s : State) : Result :=
  withSource src s fun v =>
  let (a, f) := alu8 op s.regs.a v s.flags
  .next ((s.setReg .a a).setFlags f)

/-- INC of a register or of the byte at HL (R725, R726). -/
def incByte (t : Target) (s : State) : Result := modify t inc8 s

/-- DEC of a register or of the byte at HL (R727, R728). -/
def decByte (t : Target) (s : State) : Result := modify t dec8 s

/-- DAA (R729). -/
def daaA (s : State) : Result := modify (.reg .a) daa8 s

/-- CPL (R730). -/
def cplA (s : State) : Result := modify (.reg .a) cpl8 s

/-- SCF (R731). -/
def scf (s : State) : Result := .next (s.setFlags (scfFlags s.flags))

/-- CCF (R732). -/
def ccf (s : State) : Result := .next (s.setFlags (ccfFlags s.flags))

/-! ## The meanings -/

/-- `INC B` (R725). -/
def execIncB (s : State) : Result := execute 1 4 (incByte (.reg .b)) s

/-- `DEC B` (R727). -/
def execDecB (s : State) : Result := execute 1 4 (decByte (.reg .b)) s

/-- `INC C` (R725). -/
def execIncC (s : State) : Result := execute 1 4 (incByte (.reg .c)) s

/-- `DEC C` (R727). -/
def execDecC (s : State) : Result := execute 1 4 (decByte (.reg .c)) s

/-- `INC D` (R725). -/
def execIncD (s : State) : Result := execute 1 4 (incByte (.reg .d)) s

/-- `DEC D` (R727). -/
def execDecD (s : State) : Result := execute 1 4 (decByte (.reg .d)) s

/-- `INC E` (R725). -/
def execIncE (s : State) : Result := execute 1 4 (incByte (.reg .e)) s

/-- `DEC E` (R727). -/
def execDecE (s : State) : Result := execute 1 4 (decByte (.reg .e)) s

/-- `INC H` (R725). -/
def execIncH (s : State) : Result := execute 1 4 (incByte (.reg .h)) s

/-- `DEC H` (R727). -/
def execDecH (s : State) : Result := execute 1 4 (decByte (.reg .h)) s

/-- `DAA` (R729). -/
def execDaa (s : State) : Result := execute 1 4 daaA s

/-- `INC L` (R725). -/
def execIncL (s : State) : Result := execute 1 4 (incByte (.reg .l)) s

/-- `DEC L` (R727). -/
def execDecL (s : State) : Result := execute 1 4 (decByte (.reg .l)) s

/-- `CPL` (R730). -/
def execCpl (s : State) : Result := execute 1 4 cplA s

/-- `INC (HL)` (R726). -/
def execIncMemHL (s : State) : Result := execute 1 12 (incByte .memHL) s

/-- `DEC (HL)` (R728). -/
def execDecMemHL (s : State) : Result := execute 1 12 (decByte .memHL) s

/-- `SCF` (R731). -/
def execScf (s : State) : Result := execute 1 4 scf s

/-- `INC A` (R725). -/
def execIncA (s : State) : Result := execute 1 4 (incByte (.reg .a)) s

/-- `DEC A` (R727). -/
def execDecA (s : State) : Result := execute 1 4 (decByte (.reg .a)) s

/-- `CCF` (R732). -/
def execCcf (s : State) : Result := execute 1 4 ccf s

/-- `ADD A,B` (R701). -/
def execAddAB (s : State) : Result := execute 1 4 (aluA .add (.reg .b)) s

/-- `ADD A,C` (R701). -/
def execAddAC (s : State) : Result := execute 1 4 (aluA .add (.reg .c)) s

/-- `ADD A,D` (R701). -/
def execAddAD (s : State) : Result := execute 1 4 (aluA .add (.reg .d)) s

/-- `ADD A,E` (R701). -/
def execAddAE (s : State) : Result := execute 1 4 (aluA .add (.reg .e)) s

/-- `ADD A,H` (R701). -/
def execAddAH (s : State) : Result := execute 1 4 (aluA .add (.reg .h)) s

/-- `ADD A,L` (R701). -/
def execAddAL (s : State) : Result := execute 1 4 (aluA .add (.reg .l)) s

/-- `ADD A,(HL)` (R702). -/
def execAddAMemHL (s : State) : Result := execute 1 8 (aluA .add .memHL) s

/-- `ADD A,A` (R701). -/
def execAddAA (s : State) : Result := execute 1 4 (aluA .add (.reg .a)) s

/-- `ADC A,B` (R704). -/
def execAdcAB (s : State) : Result := execute 1 4 (aluA .adc (.reg .b)) s

/-- `ADC A,C` (R704). -/
def execAdcAC (s : State) : Result := execute 1 4 (aluA .adc (.reg .c)) s

/-- `ADC A,D` (R704). -/
def execAdcAD (s : State) : Result := execute 1 4 (aluA .adc (.reg .d)) s

/-- `ADC A,E` (R704). -/
def execAdcAE (s : State) : Result := execute 1 4 (aluA .adc (.reg .e)) s

/-- `ADC A,H` (R704). -/
def execAdcAH (s : State) : Result := execute 1 4 (aluA .adc (.reg .h)) s

/-- `ADC A,L` (R704). -/
def execAdcAL (s : State) : Result := execute 1 4 (aluA .adc (.reg .l)) s

/-- `ADC A,(HL)` (R705). -/
def execAdcAMemHL (s : State) : Result := execute 1 8 (aluA .adc .memHL) s

/-- `ADC A,A` (R704). -/
def execAdcAA (s : State) : Result := execute 1 4 (aluA .adc (.reg .a)) s

/-- `SUB B` (R707). -/
def execSubB (s : State) : Result := execute 1 4 (aluA .sub (.reg .b)) s

/-- `SUB C` (R707). -/
def execSubC (s : State) : Result := execute 1 4 (aluA .sub (.reg .c)) s

/-- `SUB D` (R707). -/
def execSubD (s : State) : Result := execute 1 4 (aluA .sub (.reg .d)) s

/-- `SUB E` (R707). -/
def execSubE (s : State) : Result := execute 1 4 (aluA .sub (.reg .e)) s

/-- `SUB H` (R707). -/
def execSubH (s : State) : Result := execute 1 4 (aluA .sub (.reg .h)) s

/-- `SUB L` (R707). -/
def execSubL (s : State) : Result := execute 1 4 (aluA .sub (.reg .l)) s

/-- `SUB (HL)` (R708). -/
def execSubMemHL (s : State) : Result := execute 1 8 (aluA .sub .memHL) s

/-- `SUB A` (R707). -/
def execSubA (s : State) : Result := execute 1 4 (aluA .sub (.reg .a)) s

/-- `SBC A,B` (R710). -/
def execSbcAB (s : State) : Result := execute 1 4 (aluA .sbc (.reg .b)) s

/-- `SBC A,C` (R710). -/
def execSbcAC (s : State) : Result := execute 1 4 (aluA .sbc (.reg .c)) s

/-- `SBC A,D` (R710). -/
def execSbcAD (s : State) : Result := execute 1 4 (aluA .sbc (.reg .d)) s

/-- `SBC A,E` (R710). -/
def execSbcAE (s : State) : Result := execute 1 4 (aluA .sbc (.reg .e)) s

/-- `SBC A,H` (R710). -/
def execSbcAH (s : State) : Result := execute 1 4 (aluA .sbc (.reg .h)) s

/-- `SBC A,L` (R710). -/
def execSbcAL (s : State) : Result := execute 1 4 (aluA .sbc (.reg .l)) s

/-- `SBC A,(HL)` (R711). -/
def execSbcAMemHL (s : State) : Result := execute 1 8 (aluA .sbc .memHL) s

/-- `SBC A,A` (R710). -/
def execSbcAA (s : State) : Result := execute 1 4 (aluA .sbc (.reg .a)) s

/-- `AND B` (R713). -/
def execAndB (s : State) : Result := execute 1 4 (aluA .and (.reg .b)) s

/-- `AND C` (R713). -/
def execAndC (s : State) : Result := execute 1 4 (aluA .and (.reg .c)) s

/-- `AND D` (R713). -/
def execAndD (s : State) : Result := execute 1 4 (aluA .and (.reg .d)) s

/-- `AND E` (R713). -/
def execAndE (s : State) : Result := execute 1 4 (aluA .and (.reg .e)) s

/-- `AND H` (R713). -/
def execAndH (s : State) : Result := execute 1 4 (aluA .and (.reg .h)) s

/-- `AND L` (R713). -/
def execAndL (s : State) : Result := execute 1 4 (aluA .and (.reg .l)) s

/-- `AND (HL)` (R714). -/
def execAndMemHL (s : State) : Result := execute 1 8 (aluA .and .memHL) s

/-- `AND A` (R713). -/
def execAndA (s : State) : Result := execute 1 4 (aluA .and (.reg .a)) s

/-- `XOR B` (R716). -/
def execXorB (s : State) : Result := execute 1 4 (aluA .xor (.reg .b)) s

/-- `XOR C` (R716). -/
def execXorC (s : State) : Result := execute 1 4 (aluA .xor (.reg .c)) s

/-- `XOR D` (R716). -/
def execXorD (s : State) : Result := execute 1 4 (aluA .xor (.reg .d)) s

/-- `XOR E` (R716). -/
def execXorE (s : State) : Result := execute 1 4 (aluA .xor (.reg .e)) s

/-- `XOR H` (R716). -/
def execXorH (s : State) : Result := execute 1 4 (aluA .xor (.reg .h)) s

/-- `XOR L` (R716). -/
def execXorL (s : State) : Result := execute 1 4 (aluA .xor (.reg .l)) s

/-- `XOR (HL)` (R717). -/
def execXorMemHL (s : State) : Result := execute 1 8 (aluA .xor .memHL) s

/-- `XOR A` (R716). -/
def execXorA (s : State) : Result := execute 1 4 (aluA .xor (.reg .a)) s

/-- `OR B` (R719). -/
def execOrB (s : State) : Result := execute 1 4 (aluA .or (.reg .b)) s

/-- `OR C` (R719). -/
def execOrC (s : State) : Result := execute 1 4 (aluA .or (.reg .c)) s

/-- `OR D` (R719). -/
def execOrD (s : State) : Result := execute 1 4 (aluA .or (.reg .d)) s

/-- `OR E` (R719). -/
def execOrE (s : State) : Result := execute 1 4 (aluA .or (.reg .e)) s

/-- `OR H` (R719). -/
def execOrH (s : State) : Result := execute 1 4 (aluA .or (.reg .h)) s

/-- `OR L` (R719). -/
def execOrL (s : State) : Result := execute 1 4 (aluA .or (.reg .l)) s

/-- `OR (HL)` (R720). -/
def execOrMemHL (s : State) : Result := execute 1 8 (aluA .or .memHL) s

/-- `OR A` (R719). -/
def execOrA (s : State) : Result := execute 1 4 (aluA .or (.reg .a)) s

/-- `CP B` (R722). -/
def execCpB (s : State) : Result := execute 1 4 (aluA .cp (.reg .b)) s

/-- `CP C` (R722). -/
def execCpC (s : State) : Result := execute 1 4 (aluA .cp (.reg .c)) s

/-- `CP D` (R722). -/
def execCpD (s : State) : Result := execute 1 4 (aluA .cp (.reg .d)) s

/-- `CP E` (R722). -/
def execCpE (s : State) : Result := execute 1 4 (aluA .cp (.reg .e)) s

/-- `CP H` (R722). -/
def execCpH (s : State) : Result := execute 1 4 (aluA .cp (.reg .h)) s

/-- `CP L` (R722). -/
def execCpL (s : State) : Result := execute 1 4 (aluA .cp (.reg .l)) s

/-- `CP (HL)` (R723). -/
def execCpMemHL (s : State) : Result := execute 1 8 (aluA .cp .memHL) s

/-- `CP A` (R722). -/
def execCpA (s : State) : Result := execute 1 4 (aluA .cp (.reg .a)) s

/-- `ADD A,d8` (R703). -/
def execAddAD8 (n : Byte) (s : State) : Result := execute 2 8 (aluA .add (.imm n)) s

/-- `ADC A,d8` (R706). -/
def execAdcAD8 (n : Byte) (s : State) : Result := execute 2 8 (aluA .adc (.imm n)) s

/-- `SUB d8` (R709). -/
def execSubD8 (n : Byte) (s : State) : Result := execute 2 8 (aluA .sub (.imm n)) s

/-- `SBC A,d8` (R712). -/
def execSbcAD8 (n : Byte) (s : State) : Result := execute 2 8 (aluA .sbc (.imm n)) s

/-- `AND d8` (R715). -/
def execAndD8 (n : Byte) (s : State) : Result := execute 2 8 (aluA .and (.imm n)) s

/-- `XOR d8` (R718). -/
def execXorD8 (n : Byte) (s : State) : Result := execute 2 8 (aluA .xor (.imm n)) s

/-- `OR d8` (R721). -/
def execOrD8 (n : Byte) (s : State) : Result := execute 2 8 (aluA .or (.imm n)) s

/-- `CP d8` (R724). -/
def execCpD8 (n : Byte) (s : State) : Result := execute 2 8 (aluA .cp (.imm n)) s

end Sys2Proof.Machine
end

