-- ==== Sys2Proof/Machine/Bit.lean ====
section
/-! DEFINITION. Single-bit test, reset and set (46_bit.md). -/

namespace Sys2Proof.Machine

/-- BIT (R1001, R1002). -/
def bitTarget (b : Fin 8) (t : Target) (s : State) : Result := examine t (bitFlags b) s

/-- RES (R1003, R1004). -/
def resTarget (b : Fin 8) (t : Target) (s : State) : Result := modify t (resBit b) s

/-- SET (R1005, R1006). -/
def setTarget (b : Fin 8) (t : Target) (s : State) : Result := modify t (setBit b) s

/-! ## The meanings -/

/-- `BIT 0,B` (R1001). -/
def execBit0B (s : State) : Result := execute 2 8 (bitTarget 0 (.reg .b)) s

/-- `BIT 0,C` (R1001). -/
def execBit0C (s : State) : Result := execute 2 8 (bitTarget 0 (.reg .c)) s

/-- `BIT 0,D` (R1001). -/
def execBit0D (s : State) : Result := execute 2 8 (bitTarget 0 (.reg .d)) s

/-- `BIT 0,E` (R1001). -/
def execBit0E (s : State) : Result := execute 2 8 (bitTarget 0 (.reg .e)) s

/-- `BIT 0,H` (R1001). -/
def execBit0H (s : State) : Result := execute 2 8 (bitTarget 0 (.reg .h)) s

/-- `BIT 0,L` (R1001). -/
def execBit0L (s : State) : Result := execute 2 8 (bitTarget 0 (.reg .l)) s

/-- `BIT 0,(HL)` (R1002). -/
def execBit0MemHL (s : State) : Result := execute 2 12 (bitTarget 0 .memHL) s

/-- `BIT 0,A` (R1001). -/
def execBit0A (s : State) : Result := execute 2 8 (bitTarget 0 (.reg .a)) s

/-- `BIT 1,B` (R1001). -/
def execBit1B (s : State) : Result := execute 2 8 (bitTarget 1 (.reg .b)) s

/-- `BIT 1,C` (R1001). -/
def execBit1C (s : State) : Result := execute 2 8 (bitTarget 1 (.reg .c)) s

/-- `BIT 1,D` (R1001). -/
def execBit1D (s : State) : Result := execute 2 8 (bitTarget 1 (.reg .d)) s

/-- `BIT 1,E` (R1001). -/
def execBit1E (s : State) : Result := execute 2 8 (bitTarget 1 (.reg .e)) s

/-- `BIT 1,H` (R1001). -/
def execBit1H (s : State) : Result := execute 2 8 (bitTarget 1 (.reg .h)) s

/-- `BIT 1,L` (R1001). -/
def execBit1L (s : State) : Result := execute 2 8 (bitTarget 1 (.reg .l)) s

/-- `BIT 1,(HL)` (R1002). -/
def execBit1MemHL (s : State) : Result := execute 2 12 (bitTarget 1 .memHL) s

/-- `BIT 1,A` (R1001). -/
def execBit1A (s : State) : Result := execute 2 8 (bitTarget 1 (.reg .a)) s

/-- `BIT 2,B` (R1001). -/
def execBit2B (s : State) : Result := execute 2 8 (bitTarget 2 (.reg .b)) s

/-- `BIT 2,C` (R1001). -/
def execBit2C (s : State) : Result := execute 2 8 (bitTarget 2 (.reg .c)) s

/-- `BIT 2,D` (R1001). -/
def execBit2D (s : State) : Result := execute 2 8 (bitTarget 2 (.reg .d)) s

/-- `BIT 2,E` (R1001). -/
def execBit2E (s : State) : Result := execute 2 8 (bitTarget 2 (.reg .e)) s

/-- `BIT 2,H` (R1001). -/
def execBit2H (s : State) : Result := execute 2 8 (bitTarget 2 (.reg .h)) s

/-- `BIT 2,L` (R1001). -/
def execBit2L (s : State) : Result := execute 2 8 (bitTarget 2 (.reg .l)) s

/-- `BIT 2,(HL)` (R1002). -/
def execBit2MemHL (s : State) : Result := execute 2 12 (bitTarget 2 .memHL) s

/-- `BIT 2,A` (R1001). -/
def execBit2A (s : State) : Result := execute 2 8 (bitTarget 2 (.reg .a)) s

/-- `BIT 3,B` (R1001). -/
def execBit3B (s : State) : Result := execute 2 8 (bitTarget 3 (.reg .b)) s

/-- `BIT 3,C` (R1001). -/
def execBit3C (s : State) : Result := execute 2 8 (bitTarget 3 (.reg .c)) s

/-- `BIT 3,D` (R1001). -/
def execBit3D (s : State) : Result := execute 2 8 (bitTarget 3 (.reg .d)) s

/-- `BIT 3,E` (R1001). -/
def execBit3E (s : State) : Result := execute 2 8 (bitTarget 3 (.reg .e)) s

/-- `BIT 3,H` (R1001). -/
def execBit3H (s : State) : Result := execute 2 8 (bitTarget 3 (.reg .h)) s

/-- `BIT 3,L` (R1001). -/
def execBit3L (s : State) : Result := execute 2 8 (bitTarget 3 (.reg .l)) s

/-- `BIT 3,(HL)` (R1002). -/
def execBit3MemHL (s : State) : Result := execute 2 12 (bitTarget 3 .memHL) s

/-- `BIT 3,A` (R1001). -/
def execBit3A (s : State) : Result := execute 2 8 (bitTarget 3 (.reg .a)) s

/-- `BIT 4,B` (R1001). -/
def execBit4B (s : State) : Result := execute 2 8 (bitTarget 4 (.reg .b)) s

/-- `BIT 4,C` (R1001). -/
def execBit4C (s : State) : Result := execute 2 8 (bitTarget 4 (.reg .c)) s

/-- `BIT 4,D` (R1001). -/
def execBit4D (s : State) : Result := execute 2 8 (bitTarget 4 (.reg .d)) s

/-- `BIT 4,E` (R1001). -/
def execBit4E (s : State) : Result := execute 2 8 (bitTarget 4 (.reg .e)) s

/-- `BIT 4,H` (R1001). -/
def execBit4H (s : State) : Result := execute 2 8 (bitTarget 4 (.reg .h)) s

/-- `BIT 4,L` (R1001). -/
def execBit4L (s : State) : Result := execute 2 8 (bitTarget 4 (.reg .l)) s

/-- `BIT 4,(HL)` (R1002). -/
def execBit4MemHL (s : State) : Result := execute 2 12 (bitTarget 4 .memHL) s

/-- `BIT 4,A` (R1001). -/
def execBit4A (s : State) : Result := execute 2 8 (bitTarget 4 (.reg .a)) s

/-- `BIT 5,B` (R1001). -/
def execBit5B (s : State) : Result := execute 2 8 (bitTarget 5 (.reg .b)) s

/-- `BIT 5,C` (R1001). -/
def execBit5C (s : State) : Result := execute 2 8 (bitTarget 5 (.reg .c)) s

/-- `BIT 5,D` (R1001). -/
def execBit5D (s : State) : Result := execute 2 8 (bitTarget 5 (.reg .d)) s

/-- `BIT 5,E` (R1001). -/
def execBit5E (s : State) : Result := execute 2 8 (bitTarget 5 (.reg .e)) s

/-- `BIT 5,H` (R1001). -/
def execBit5H (s : State) : Result := execute 2 8 (bitTarget 5 (.reg .h)) s

/-- `BIT 5,L` (R1001). -/
def execBit5L (s : State) : Result := execute 2 8 (bitTarget 5 (.reg .l)) s

/-- `BIT 5,(HL)` (R1002). -/
def execBit5MemHL (s : State) : Result := execute 2 12 (bitTarget 5 .memHL) s

/-- `BIT 5,A` (R1001). -/
def execBit5A (s : State) : Result := execute 2 8 (bitTarget 5 (.reg .a)) s

/-- `BIT 6,B` (R1001). -/
def execBit6B (s : State) : Result := execute 2 8 (bitTarget 6 (.reg .b)) s

/-- `BIT 6,C` (R1001). -/
def execBit6C (s : State) : Result := execute 2 8 (bitTarget 6 (.reg .c)) s

/-- `BIT 6,D` (R1001). -/
def execBit6D (s : State) : Result := execute 2 8 (bitTarget 6 (.reg .d)) s

/-- `BIT 6,E` (R1001). -/
def execBit6E (s : State) : Result := execute 2 8 (bitTarget 6 (.reg .e)) s

/-- `BIT 6,H` (R1001). -/
def execBit6H (s : State) : Result := execute 2 8 (bitTarget 6 (.reg .h)) s

/-- `BIT 6,L` (R1001). -/
def execBit6L (s : State) : Result := execute 2 8 (bitTarget 6 (.reg .l)) s

/-- `BIT 6,(HL)` (R1002). -/
def execBit6MemHL (s : State) : Result := execute 2 12 (bitTarget 6 .memHL) s

/-- `BIT 6,A` (R1001). -/
def execBit6A (s : State) : Result := execute 2 8 (bitTarget 6 (.reg .a)) s

/-- `BIT 7,B` (R1001). -/
def execBit7B (s : State) : Result := execute 2 8 (bitTarget 7 (.reg .b)) s

/-- `BIT 7,C` (R1001). -/
def execBit7C (s : State) : Result := execute 2 8 (bitTarget 7 (.reg .c)) s

/-- `BIT 7,D` (R1001). -/
def execBit7D (s : State) : Result := execute 2 8 (bitTarget 7 (.reg .d)) s

/-- `BIT 7,E` (R1001). -/
def execBit7E (s : State) : Result := execute 2 8 (bitTarget 7 (.reg .e)) s

/-- `BIT 7,H` (R1001). -/
def execBit7H (s : State) : Result := execute 2 8 (bitTarget 7 (.reg .h)) s

/-- `BIT 7,L` (R1001). -/
def execBit7L (s : State) : Result := execute 2 8 (bitTarget 7 (.reg .l)) s

/-- `BIT 7,(HL)` (R1002). -/
def execBit7MemHL (s : State) : Result := execute 2 12 (bitTarget 7 .memHL) s

/-- `BIT 7,A` (R1001). -/
def execBit7A (s : State) : Result := execute 2 8 (bitTarget 7 (.reg .a)) s

/-- `RES 0,B` (R1003). -/
def execRes0B (s : State) : Result := execute 2 8 (resTarget 0 (.reg .b)) s

/-- `RES 0,C` (R1003). -/
def execRes0C (s : State) : Result := execute 2 8 (resTarget 0 (.reg .c)) s

/-- `RES 0,D` (R1003). -/
def execRes0D (s : State) : Result := execute 2 8 (resTarget 0 (.reg .d)) s

/-- `RES 0,E` (R1003). -/
def execRes0E (s : State) : Result := execute 2 8 (resTarget 0 (.reg .e)) s

/-- `RES 0,H` (R1003). -/
def execRes0H (s : State) : Result := execute 2 8 (resTarget 0 (.reg .h)) s

/-- `RES 0,L` (R1003). -/
def execRes0L (s : State) : Result := execute 2 8 (resTarget 0 (.reg .l)) s

/-- `RES 0,(HL)` (R1004). -/
def execRes0MemHL (s : State) : Result := execute 2 16 (resTarget 0 .memHL) s

/-- `RES 0,A` (R1003). -/
def execRes0A (s : State) : Result := execute 2 8 (resTarget 0 (.reg .a)) s

/-- `RES 1,B` (R1003). -/
def execRes1B (s : State) : Result := execute 2 8 (resTarget 1 (.reg .b)) s

/-- `RES 1,C` (R1003). -/
def execRes1C (s : State) : Result := execute 2 8 (resTarget 1 (.reg .c)) s

/-- `RES 1,D` (R1003). -/
def execRes1D (s : State) : Result := execute 2 8 (resTarget 1 (.reg .d)) s

/-- `RES 1,E` (R1003). -/
def execRes1E (s : State) : Result := execute 2 8 (resTarget 1 (.reg .e)) s

/-- `RES 1,H` (R1003). -/
def execRes1H (s : State) : Result := execute 2 8 (resTarget 1 (.reg .h)) s

/-- `RES 1,L` (R1003). -/
def execRes1L (s : State) : Result := execute 2 8 (resTarget 1 (.reg .l)) s

/-- `RES 1,(HL)` (R1004). -/
def execRes1MemHL (s : State) : Result := execute 2 16 (resTarget 1 .memHL) s

/-- `RES 1,A` (R1003). -/
def execRes1A (s : State) : Result := execute 2 8 (resTarget 1 (.reg .a)) s

/-- `RES 2,B` (R1003). -/
def execRes2B (s : State) : Result := execute 2 8 (resTarget 2 (.reg .b)) s

/-- `RES 2,C` (R1003). -/
def execRes2C (s : State) : Result := execute 2 8 (resTarget 2 (.reg .c)) s

/-- `RES 2,D` (R1003). -/
def execRes2D (s : State) : Result := execute 2 8 (resTarget 2 (.reg .d)) s

/-- `RES 2,E` (R1003). -/
def execRes2E (s : State) : Result := execute 2 8 (resTarget 2 (.reg .e)) s

/-- `RES 2,H` (R1003). -/
def execRes2H (s : State) : Result := execute 2 8 (resTarget 2 (.reg .h)) s

/-- `RES 2,L` (R1003). -/
def execRes2L (s : State) : Result := execute 2 8 (resTarget 2 (.reg .l)) s

/-- `RES 2,(HL)` (R1004). -/
def execRes2MemHL (s : State) : Result := execute 2 16 (resTarget 2 .memHL) s

/-- `RES 2,A` (R1003). -/
def execRes2A (s : State) : Result := execute 2 8 (resTarget 2 (.reg .a)) s

/-- `RES 3,B` (R1003). -/
def execRes3B (s : State) : Result := execute 2 8 (resTarget 3 (.reg .b)) s

/-- `RES 3,C` (R1003). -/
def execRes3C (s : State) : Result := execute 2 8 (resTarget 3 (.reg .c)) s

/-- `RES 3,D` (R1003). -/
def execRes3D (s : State) : Result := execute 2 8 (resTarget 3 (.reg .d)) s

/-- `RES 3,E` (R1003). -/
def execRes3E (s : State) : Result := execute 2 8 (resTarget 3 (.reg .e)) s

/-- `RES 3,H` (R1003). -/
def execRes3H (s : State) : Result := execute 2 8 (resTarget 3 (.reg .h)) s

/-- `RES 3,L` (R1003). -/
def execRes3L (s : State) : Result := execute 2 8 (resTarget 3 (.reg .l)) s

/-- `RES 3,(HL)` (R1004). -/
def execRes3MemHL (s : State) : Result := execute 2 16 (resTarget 3 .memHL) s

/-- `RES 3,A` (R1003). -/
def execRes3A (s : State) : Result := execute 2 8 (resTarget 3 (.reg .a)) s

/-- `RES 4,B` (R1003). -/
def execRes4B (s : State) : Result := execute 2 8 (resTarget 4 (.reg .b)) s

/-- `RES 4,C` (R1003). -/
def execRes4C (s : State) : Result := execute 2 8 (resTarget 4 (.reg .c)) s

/-- `RES 4,D` (R1003). -/
def execRes4D (s : State) : Result := execute 2 8 (resTarget 4 (.reg .d)) s

/-- `RES 4,E` (R1003). -/
def execRes4E (s : State) : Result := execute 2 8 (resTarget 4 (.reg .e)) s

/-- `RES 4,H` (R1003). -/
def execRes4H (s : State) : Result := execute 2 8 (resTarget 4 (.reg .h)) s

/-- `RES 4,L` (R1003). -/
def execRes4L (s : State) : Result := execute 2 8 (resTarget 4 (.reg .l)) s

/-- `RES 4,(HL)` (R1004). -/
def execRes4MemHL (s : State) : Result := execute 2 16 (resTarget 4 .memHL) s

/-- `RES 4,A` (R1003). -/
def execRes4A (s : State) : Result := execute 2 8 (resTarget 4 (.reg .a)) s

/-- `RES 5,B` (R1003). -/
def execRes5B (s : State) : Result := execute 2 8 (resTarget 5 (.reg .b)) s

/-- `RES 5,C` (R1003). -/
def execRes5C (s : State) : Result := execute 2 8 (resTarget 5 (.reg .c)) s

/-- `RES 5,D` (R1003). -/
def execRes5D (s : State) : Result := execute 2 8 (resTarget 5 (.reg .d)) s

/-- `RES 5,E` (R1003). -/
def execRes5E (s : State) : Result := execute 2 8 (resTarget 5 (.reg .e)) s

/-- `RES 5,H` (R1003). -/
def execRes5H (s : State) : Result := execute 2 8 (resTarget 5 (.reg .h)) s

/-- `RES 5,L` (R1003). -/
def execRes5L (s : State) : Result := execute 2 8 (resTarget 5 (.reg .l)) s

/-- `RES 5,(HL)` (R1004). -/
def execRes5MemHL (s : State) : Result := execute 2 16 (resTarget 5 .memHL) s

/-- `RES 5,A` (R1003). -/
def execRes5A (s : State) : Result := execute 2 8 (resTarget 5 (.reg .a)) s

/-- `RES 6,B` (R1003). -/
def execRes6B (s : State) : Result := execute 2 8 (resTarget 6 (.reg .b)) s

/-- `RES 6,C` (R1003). -/
def execRes6C (s : State) : Result := execute 2 8 (resTarget 6 (.reg .c)) s

/-- `RES 6,D` (R1003). -/
def execRes6D (s : State) : Result := execute 2 8 (resTarget 6 (.reg .d)) s

/-- `RES 6,E` (R1003). -/
def execRes6E (s : State) : Result := execute 2 8 (resTarget 6 (.reg .e)) s

/-- `RES 6,H` (R1003). -/
def execRes6H (s : State) : Result := execute 2 8 (resTarget 6 (.reg .h)) s

/-- `RES 6,L` (R1003). -/
def execRes6L (s : State) : Result := execute 2 8 (resTarget 6 (.reg .l)) s

/-- `RES 6,(HL)` (R1004). -/
def execRes6MemHL (s : State) : Result := execute 2 16 (resTarget 6 .memHL) s

/-- `RES 6,A` (R1003). -/
def execRes6A (s : State) : Result := execute 2 8 (resTarget 6 (.reg .a)) s

/-- `RES 7,B` (R1003). -/
def execRes7B (s : State) : Result := execute 2 8 (resTarget 7 (.reg .b)) s

/-- `RES 7,C` (R1003). -/
def execRes7C (s : State) : Result := execute 2 8 (resTarget 7 (.reg .c)) s

/-- `RES 7,D` (R1003). -/
def execRes7D (s : State) : Result := execute 2 8 (resTarget 7 (.reg .d)) s

/-- `RES 7,E` (R1003). -/
def execRes7E (s : State) : Result := execute 2 8 (resTarget 7 (.reg .e)) s

/-- `RES 7,H` (R1003). -/
def execRes7H (s : State) : Result := execute 2 8 (resTarget 7 (.reg .h)) s

/-- `RES 7,L` (R1003). -/
def execRes7L (s : State) : Result := execute 2 8 (resTarget 7 (.reg .l)) s

/-- `RES 7,(HL)` (R1004). -/
def execRes7MemHL (s : State) : Result := execute 2 16 (resTarget 7 .memHL) s

/-- `RES 7,A` (R1003). -/
def execRes7A (s : State) : Result := execute 2 8 (resTarget 7 (.reg .a)) s

/-- `SET 0,B` (R1005). -/
def execSet0B (s : State) : Result := execute 2 8 (setTarget 0 (.reg .b)) s

/-- `SET 0,C` (R1005). -/
def execSet0C (s : State) : Result := execute 2 8 (setTarget 0 (.reg .c)) s

/-- `SET 0,D` (R1005). -/
def execSet0D (s : State) : Result := execute 2 8 (setTarget 0 (.reg .d)) s

/-- `SET 0,E` (R1005). -/
def execSet0E (s : State) : Result := execute 2 8 (setTarget 0 (.reg .e)) s

/-- `SET 0,H` (R1005). -/
def execSet0H (s : State) : Result := execute 2 8 (setTarget 0 (.reg .h)) s

/-- `SET 0,L` (R1005). -/
def execSet0L (s : State) : Result := execute 2 8 (setTarget 0 (.reg .l)) s

/-- `SET 0,(HL)` (R1006). -/
def execSet0MemHL (s : State) : Result := execute 2 16 (setTarget 0 .memHL) s

/-- `SET 0,A` (R1005). -/
def execSet0A (s : State) : Result := execute 2 8 (setTarget 0 (.reg .a)) s

/-- `SET 1,B` (R1005). -/
def execSet1B (s : State) : Result := execute 2 8 (setTarget 1 (.reg .b)) s

/-- `SET 1,C` (R1005). -/
def execSet1C (s : State) : Result := execute 2 8 (setTarget 1 (.reg .c)) s

/-- `SET 1,D` (R1005). -/
def execSet1D (s : State) : Result := execute 2 8 (setTarget 1 (.reg .d)) s

/-- `SET 1,E` (R1005). -/
def execSet1E (s : State) : Result := execute 2 8 (setTarget 1 (.reg .e)) s

/-- `SET 1,H` (R1005). -/
def execSet1H (s : State) : Result := execute 2 8 (setTarget 1 (.reg .h)) s

/-- `SET 1,L` (R1005). -/
def execSet1L (s : State) : Result := execute 2 8 (setTarget 1 (.reg .l)) s

/-- `SET 1,(HL)` (R1006). -/
def execSet1MemHL (s : State) : Result := execute 2 16 (setTarget 1 .memHL) s

/-- `SET 1,A` (R1005). -/
def execSet1A (s : State) : Result := execute 2 8 (setTarget 1 (.reg .a)) s

/-- `SET 2,B` (R1005). -/
def execSet2B (s : State) : Result := execute 2 8 (setTarget 2 (.reg .b)) s

/-- `SET 2,C` (R1005). -/
def execSet2C (s : State) : Result := execute 2 8 (setTarget 2 (.reg .c)) s

/-- `SET 2,D` (R1005). -/
def execSet2D (s : State) : Result := execute 2 8 (setTarget 2 (.reg .d)) s

/-- `SET 2,E` (R1005). -/
def execSet2E (s : State) : Result := execute 2 8 (setTarget 2 (.reg .e)) s

/-- `SET 2,H` (R1005). -/
def execSet2H (s : State) : Result := execute 2 8 (setTarget 2 (.reg .h)) s

/-- `SET 2,L` (R1005). -/
def execSet2L (s : State) : Result := execute 2 8 (setTarget 2 (.reg .l)) s

/-- `SET 2,(HL)` (R1006). -/
def execSet2MemHL (s : State) : Result := execute 2 16 (setTarget 2 .memHL) s

/-- `SET 2,A` (R1005). -/
def execSet2A (s : State) : Result := execute 2 8 (setTarget 2 (.reg .a)) s

/-- `SET 3,B` (R1005). -/
def execSet3B (s : State) : Result := execute 2 8 (setTarget 3 (.reg .b)) s

/-- `SET 3,C` (R1005). -/
def execSet3C (s : State) : Result := execute 2 8 (setTarget 3 (.reg .c)) s

/-- `SET 3,D` (R1005). -/
def execSet3D (s : State) : Result := execute 2 8 (setTarget 3 (.reg .d)) s

/-- `SET 3,E` (R1005). -/
def execSet3E (s : State) : Result := execute 2 8 (setTarget 3 (.reg .e)) s

/-- `SET 3,H` (R1005). -/
def execSet3H (s : State) : Result := execute 2 8 (setTarget 3 (.reg .h)) s

/-- `SET 3,L` (R1005). -/
def execSet3L (s : State) : Result := execute 2 8 (setTarget 3 (.reg .l)) s

/-- `SET 3,(HL)` (R1006). -/
def execSet3MemHL (s : State) : Result := execute 2 16 (setTarget 3 .memHL) s

/-- `SET 3,A` (R1005). -/
def execSet3A (s : State) : Result := execute 2 8 (setTarget 3 (.reg .a)) s

/-- `SET 4,B` (R1005). -/
def execSet4B (s : State) : Result := execute 2 8 (setTarget 4 (.reg .b)) s

/-- `SET 4,C` (R1005). -/
def execSet4C (s : State) : Result := execute 2 8 (setTarget 4 (.reg .c)) s

/-- `SET 4,D` (R1005). -/
def execSet4D (s : State) : Result := execute 2 8 (setTarget 4 (.reg .d)) s

/-- `SET 4,E` (R1005). -/
def execSet4E (s : State) : Result := execute 2 8 (setTarget 4 (.reg .e)) s

/-- `SET 4,H` (R1005). -/
def execSet4H (s : State) : Result := execute 2 8 (setTarget 4 (.reg .h)) s

/-- `SET 4,L` (R1005). -/
def execSet4L (s : State) : Result := execute 2 8 (setTarget 4 (.reg .l)) s

/-- `SET 4,(HL)` (R1006). -/
def execSet4MemHL (s : State) : Result := execute 2 16 (setTarget 4 .memHL) s

/-- `SET 4,A` (R1005). -/
def execSet4A (s : State) : Result := execute 2 8 (setTarget 4 (.reg .a)) s

/-- `SET 5,B` (R1005). -/
def execSet5B (s : State) : Result := execute 2 8 (setTarget 5 (.reg .b)) s

/-- `SET 5,C` (R1005). -/
def execSet5C (s : State) : Result := execute 2 8 (setTarget 5 (.reg .c)) s

/-- `SET 5,D` (R1005). -/
def execSet5D (s : State) : Result := execute 2 8 (setTarget 5 (.reg .d)) s

/-- `SET 5,E` (R1005). -/
def execSet5E (s : State) : Result := execute 2 8 (setTarget 5 (.reg .e)) s

/-- `SET 5,H` (R1005). -/
def execSet5H (s : State) : Result := execute 2 8 (setTarget 5 (.reg .h)) s

/-- `SET 5,L` (R1005). -/
def execSet5L (s : State) : Result := execute 2 8 (setTarget 5 (.reg .l)) s

/-- `SET 5,(HL)` (R1006). -/
def execSet5MemHL (s : State) : Result := execute 2 16 (setTarget 5 .memHL) s

/-- `SET 5,A` (R1005). -/
def execSet5A (s : State) : Result := execute 2 8 (setTarget 5 (.reg .a)) s

/-- `SET 6,B` (R1005). -/
def execSet6B (s : State) : Result := execute 2 8 (setTarget 6 (.reg .b)) s

/-- `SET 6,C` (R1005). -/
def execSet6C (s : State) : Result := execute 2 8 (setTarget 6 (.reg .c)) s

/-- `SET 6,D` (R1005). -/
def execSet6D (s : State) : Result := execute 2 8 (setTarget 6 (.reg .d)) s

/-- `SET 6,E` (R1005). -/
def execSet6E (s : State) : Result := execute 2 8 (setTarget 6 (.reg .e)) s

/-- `SET 6,H` (R1005). -/
def execSet6H (s : State) : Result := execute 2 8 (setTarget 6 (.reg .h)) s

/-- `SET 6,L` (R1005). -/
def execSet6L (s : State) : Result := execute 2 8 (setTarget 6 (.reg .l)) s

/-- `SET 6,(HL)` (R1006). -/
def execSet6MemHL (s : State) : Result := execute 2 16 (setTarget 6 .memHL) s

/-- `SET 6,A` (R1005). -/
def execSet6A (s : State) : Result := execute 2 8 (setTarget 6 (.reg .a)) s

/-- `SET 7,B` (R1005). -/
def execSet7B (s : State) : Result := execute 2 8 (setTarget 7 (.reg .b)) s

/-- `SET 7,C` (R1005). -/
def execSet7C (s : State) : Result := execute 2 8 (setTarget 7 (.reg .c)) s

/-- `SET 7,D` (R1005). -/
def execSet7D (s : State) : Result := execute 2 8 (setTarget 7 (.reg .d)) s

/-- `SET 7,E` (R1005). -/
def execSet7E (s : State) : Result := execute 2 8 (setTarget 7 (.reg .e)) s

/-- `SET 7,H` (R1005). -/
def execSet7H (s : State) : Result := execute 2 8 (setTarget 7 (.reg .h)) s

/-- `SET 7,L` (R1005). -/
def execSet7L (s : State) : Result := execute 2 8 (setTarget 7 (.reg .l)) s

/-- `SET 7,(HL)` (R1006). -/
def execSet7MemHL (s : State) : Result := execute 2 16 (setTarget 7 .memHL) s

/-- `SET 7,A` (R1005). -/
def execSet7A (s : State) : Result := execute 2 8 (setTarget 7 (.reg .a)) s

end Sys2Proof.Machine
end

