-- ==== Sys2Proof/Machine/ControlTransfer.lean ====
section
/-! DEFINITION. Jumps, calls, returns and restarts (47_control_transfer.md). When a rule starts, PC already holds PCnext (R1100). No rule
writes a flag. -/

namespace Sys2Proof.Machine

/-- `pc <- imm16` (R1101). -/
def jumpTo (nn : Word) (s : State) : Result := assignPC nn.toNat s

/-- `pc <- {H, L}` (R1103). -/
def jumpHL (s : State) : Result := assignPC s.regs.hl.toNat s

/-- `pc <- PCnext + e`, range-checked (R1104). -/
def jumpBy (e : Byte) (s : State) : Result := assignPC (s.pc.toNat + s8 e) s

/-- `Push16(PCnext); pc <- imm16` (R1106). -/
def callTo (nn : Word) (s : State) : Result := andThen (push16 s.pc s) (assignPC nn.toNat)

/-- `Push16(PCnext); pc <- t * 8` (R1111). -/
def restart (t : Fin 8) (s : State) : Result := andThen (push16 s.pc s) (assignPC (t.val * 8))

/-! ## The meanings -/

/-- `JR r8` (R1104). -/
def execJrR8 (e : Byte) (s : State) : Result := execute 2 12 (jumpBy e) s

/-- `JR NZ,r8` (R1105). -/
def execJrNzR8 (e : Byte) (s : State) : Result := executeIf 2 12 8 (condHolds .nz) (jumpBy e) s

/-- `JR Z,r8` (R1105). -/
def execJrZR8 (e : Byte) (s : State) : Result := executeIf 2 12 8 (condHolds .z) (jumpBy e) s

/-- `JR NC,r8` (R1105). -/
def execJrNcR8 (e : Byte) (s : State) : Result := executeIf 2 12 8 (condHolds .nc) (jumpBy e) s

/-- `JR C,r8` (R1105). -/
def execJrCR8 (e : Byte) (s : State) : Result := executeIf 2 12 8 (condHolds .c) (jumpBy e) s

/-- `RET NZ` (R1109). -/
def execRetNz (s : State) : Result := executeIf 1 20 8 (condHolds .nz) popPC s

/-- `JP NZ,a16` (R1102). -/
def execJpNzA16 (nn : Word) (s : State) : Result := executeIf 3 16 12 (condHolds .nz) (jumpTo nn) s

/-- `JP a16` (R1101). -/
def execJpA16 (nn : Word) (s : State) : Result := execute 3 16 (jumpTo nn) s

/-- `CALL NZ,a16` (R1107). -/
def execCallNzA16 (nn : Word) (s : State) : Result := executeIf 3 24 12 (condHolds .nz) (callTo nn) s

/-- `RST 00H` (R1111). -/
def execRst00H (s : State) : Result := execute 1 16 (restart 0) s

/-- `RET Z` (R1109). -/
def execRetZ (s : State) : Result := executeIf 1 20 8 (condHolds .z) popPC s

/-- `RET` (R1108). -/
def execRet (s : State) : Result := execute 1 16 popPC s

/-- `JP Z,a16` (R1102). -/
def execJpZA16 (nn : Word) (s : State) : Result := executeIf 3 16 12 (condHolds .z) (jumpTo nn) s

/-- `CALL Z,a16` (R1107). -/
def execCallZA16 (nn : Word) (s : State) : Result := executeIf 3 24 12 (condHolds .z) (callTo nn) s

/-- `CALL a16` (R1106). -/
def execCallA16 (nn : Word) (s : State) : Result := execute 3 24 (callTo nn) s

/-- `RST 08H` (R1111). -/
def execRst08H (s : State) : Result := execute 1 16 (restart 1) s

/-- `RET NC` (R1109). -/
def execRetNc (s : State) : Result := executeIf 1 20 8 (condHolds .nc) popPC s

/-- `JP NC,a16` (R1102). -/
def execJpNcA16 (nn : Word) (s : State) : Result := executeIf 3 16 12 (condHolds .nc) (jumpTo nn) s

/-- `CALL NC,a16` (R1107). -/
def execCallNcA16 (nn : Word) (s : State) : Result := executeIf 3 24 12 (condHolds .nc) (callTo nn) s

/-- `RST 10H` (R1111). -/
def execRst10H (s : State) : Result := execute 1 16 (restart 2) s

/-- `RET C` (R1109). -/
def execRetC (s : State) : Result := executeIf 1 20 8 (condHolds .c) popPC s

/-- `RETI` (R1110). -/
def execReti (s : State) : Result := execute 1 16 returnFromInterrupt s

/-- `JP C,a16` (R1102). -/
def execJpCA16 (nn : Word) (s : State) : Result := executeIf 3 16 12 (condHolds .c) (jumpTo nn) s

/-- `CALL C,a16` (R1107). -/
def execCallCA16 (nn : Word) (s : State) : Result := executeIf 3 24 12 (condHolds .c) (callTo nn) s

/-- `RST 18H` (R1111). -/
def execRst18H (s : State) : Result := execute 1 16 (restart 3) s

/-- `RST 20H` (R1111). -/
def execRst20H (s : State) : Result := execute 1 16 (restart 4) s

/-- `JP HL` (R1103). -/
def execJpHL (s : State) : Result := execute 1 4 jumpHL s

/-- `RST 28H` (R1111). -/
def execRst28H (s : State) : Result := execute 1 16 (restart 5) s

/-- `RST 30H` (R1111). -/
def execRst30H (s : State) : Result := execute 1 16 (restart 6) s

/-- `RST 38H` (R1111). -/
def execRst38H (s : State) : Result := execute 1 16 (restart 7) s

end Sys2Proof.Machine
end

