-- ==== Sys2Proof/WellFormed.lean ====
section
/-! DEFINITION. Which terms of `Instr` are instructions of the table. Every operand field has exactly the width of its encoding
field, so no operand value is out of range; the one check is that the row has a table entry at all (30_encoding.md R307). -/

namespace Sys2Proof

/-- An instruction is well formed when its opcode has a table entry: every row but the eleven undefined bytes of R307. -/
def Instr.wellFormed : Instr → Bool
  | .undefD3 => false
  | .undefDB => false
  | .undefDD => false
  | .undefE3 => false
  | .undefE4 => false
  | .undefEB => false
  | .undefEC => false
  | .undefED => false
  | .undefF4 => false
  | .undefFC => false
  | .undefFD => false
  | _ => true

end Sys2Proof
end

