-- ==== Sys2Proof/Decode.lean ====
section
/-! DEFINITION. The decoder, written from the opcode maps of 30_encoding.md R305 and R306 (sixteen rows of sixteen cells each,
`mnemonic (length; cycles)`), and after it the encoder, written from the same maps. Decoding is total: a byte sequence that is
too short is refused by name, and the eleven bytes with no table entry decode to their own `undef..` rows (R307), which fault. -/

namespace Sys2Proof

open Sys2Proof.Machine

/-- What follows the opcode of a table entry (formats of R302). `skip` is STOP's second byte, part of the length and never
read (R308, R405). -/
inductive Operand where
  | none (i : Instr)
  | skip (i : Instr)
  | byte (f : Byte → Instr)
  | word (f : Word → Instr)

/-- A table entry: "mnemonic, byte length, cycle cost(s)" (R300, R305). `cyclesNotTaken` is set only for a conditional control
transfer (R312). -/
structure Entry where
  length : Nat
  cycles : Nat
  cyclesNotTaken : Option Nat
  operand : Operand

/-- A cell of the one-byte opcode map R305. -/
inductive Cell where
  | entry (e : Entry)
  | undefined (i : Instr)
  | escape

/-- `(1; c)` -/
def op1 (c : Nat) (i : Instr) : Cell := .entry ⟨1, c, Option.none, .none i⟩
/-- `(1; c/n)` -/
def op1c (c n : Nat) (i : Instr) : Cell := .entry ⟨1, c, some n, .none i⟩
/-- `(2; c)` with an immediate byte -/
def op2 (c : Nat) (f : Byte → Instr) : Cell := .entry ⟨2, c, Option.none, .byte f⟩
/-- `(2; c/n)` with an immediate byte -/
def op2c (c n : Nat) (f : Byte → Instr) : Cell := .entry ⟨2, c, some n, .byte f⟩
/-- `(2; c)` with a second byte that is not read: STOP -/
def opSkip (c : Nat) (i : Instr) : Cell := .entry ⟨2, c, Option.none, .skip i⟩
/-- `(3; c)` with an immediate word -/
def op3 (c : Nat) (f : Word → Instr) : Cell := .entry ⟨3, c, Option.none, .word f⟩
/-- `(3; c/n)` with an immediate word -/
def op3c (c n : Nat) (f : Word → Instr) : Cell := .entry ⟨3, c, some n, .word f⟩

/-- Row 0x of R305. -/
def opRow0 : List Cell :=
  [op1 4 .nop, op3 12 .ldBCD16, op1 8 .ldMemBCA, op1 8 .incBC, op1 4 .incB, op1 4 .decB, op2 8 .ldBD8, op1 4 .rlca,
   op3 20 .ldMemA16SP, op1 8 .addHLBC, op1 8 .ldAMemBC, op1 8 .decBC, op1 4 .incC, op1 4 .decC, op2 8 .ldCD8,
   op1 4 .rrca]

/-- Row 1x of R305. -/
def opRow1 : List Cell :=
  [opSkip 4 .stop, op3 12 .ldDED16, op1 8 .ldMemDEA, op1 8 .incDE, op1 4 .incD, op1 4 .decD, op2 8 .ldDD8,
   op1 4 .rla, op2 12 .jrR8, op1 8 .addHLDE, op1 8 .ldAMemDE, op1 8 .decDE, op1 4 .incE, op1 4 .decE, op2 8 .ldED8,
   op1 4 .rra]

/-- Row 2x of R305. -/
def opRow2 : List Cell :=
  [op2c 12 8 .jrNzR8, op3 12 .ldHLD16, op1 8 .ldMemHLIncA, op1 8 .incHL, op1 4 .incH, op1 4 .decH, op2 8 .ldHD8,
   op1 4 .daa, op2c 12 8 .jrZR8, op1 8 .addHLHL, op1 8 .ldAMemHLInc, op1 8 .decHL, op1 4 .incL, op1 4 .decL,
   op2 8 .ldLD8, op1 4 .cpl]

/-- Row 3x of R305. -/
def opRow3 : List Cell :=
  [op2c 12 8 .jrNcR8, op3 12 .ldSPD16, op1 8 .ldMemHLDecA, op1 8 .incSP, op1 12 .incMemHL, op1 12 .decMemHL,
   op2 12 .ldMemHLD8, op1 4 .scf, op2c 12 8 .jrCR8, op1 8 .addHLSP, op1 8 .ldAMemHLDec, op1 8 .decSP, op1 4 .incA,
   op1 4 .decA, op2 8 .ldAD8, op1 4 .ccf]

/-- Row 4x of R305. -/
def opRow4 : List Cell :=
  [op1 4 .ldBB, op1 4 .ldBC, op1 4 .ldBD, op1 4 .ldBE, op1 4 .ldBH, op1 4 .ldBL, op1 8 .ldBMemHL, op1 4 .ldBA,
   op1 4 .ldCB, op1 4 .ldCC, op1 4 .ldCD, op1 4 .ldCE, op1 4 .ldCH, op1 4 .ldCL, op1 8 .ldCMemHL, op1 4 .ldCA]

/-- Row 5x of R305. -/
def opRow5 : List Cell :=
  [op1 4 .ldDB, op1 4 .ldDC, op1 4 .ldDD, op1 4 .ldDE, op1 4 .ldDH, op1 4 .ldDL, op1 8 .ldDMemHL, op1 4 .ldDA,
   op1 4 .ldEB, op1 4 .ldEC, op1 4 .ldED, op1 4 .ldEE, op1 4 .ldEH, op1 4 .ldEL, op1 8 .ldEMemHL, op1 4 .ldEA]

/-- Row 6x of R305. -/
def opRow6 : List Cell :=
  [op1 4 .ldHB, op1 4 .ldHC, op1 4 .ldHD, op1 4 .ldHE, op1 4 .ldHH, op1 4 .ldHL, op1 8 .ldHMemHL, op1 4 .ldHA,
   op1 4 .ldLB, op1 4 .ldLC, op1 4 .ldLD, op1 4 .ldLE, op1 4 .ldLH, op1 4 .ldLL, op1 8 .ldLMemHL, op1 4 .ldLA]

/-- Row 7x of R305. -/
def opRow7 : List Cell :=
  [op1 8 .ldMemHLB, op1 8 .ldMemHLC, op1 8 .ldMemHLD, op1 8 .ldMemHLE, op1 8 .ldMemHLH, op1 8 .ldMemHLL, op1 4 .halt,
   op1 8 .ldMemHLA, op1 4 .ldAB, op1 4 .ldAC, op1 4 .ldAD, op1 4 .ldAE, op1 4 .ldAH, op1 4 .ldAL, op1 8 .ldAMemHL,
   op1 4 .ldAA]

/-- Row 8x of R305. -/
def opRow8 : List Cell :=
  [op1 4 .addAB, op1 4 .addAC, op1 4 .addAD, op1 4 .addAE, op1 4 .addAH, op1 4 .addAL, op1 8 .addAMemHL,
   op1 4 .addAA, op1 4 .adcAB, op1 4 .adcAC, op1 4 .adcAD, op1 4 .adcAE, op1 4 .adcAH, op1 4 .adcAL,
   op1 8 .adcAMemHL, op1 4 .adcAA]

/-- Row 9x of R305. -/
def opRow9 : List Cell :=
  [op1 4 .subB, op1 4 .subC, op1 4 .subD, op1 4 .subE, op1 4 .subH, op1 4 .subL, op1 8 .subMemHL, op1 4 .subA,
   op1 4 .sbcAB, op1 4 .sbcAC, op1 4 .sbcAD, op1 4 .sbcAE, op1 4 .sbcAH, op1 4 .sbcAL, op1 8 .sbcAMemHL, op1 4 .sbcAA]

/-- Row Ax of R305. -/
def opRowA : List Cell :=
  [op1 4 .andB, op1 4 .andC, op1 4 .andD, op1 4 .andE, op1 4 .andH, op1 4 .andL, op1 8 .andMemHL, op1 4 .andA,
   op1 4 .xorB, op1 4 .xorC, op1 4 .xorD, op1 4 .xorE, op1 4 .xorH, op1 4 .xorL, op1 8 .xorMemHL, op1 4 .xorA]

/-- Row Bx of R305. -/
def opRowB : List Cell :=
  [op1 4 .orB, op1 4 .orC, op1 4 .orD, op1 4 .orE, op1 4 .orH, op1 4 .orL, op1 8 .orMemHL, op1 4 .orA, op1 4 .cpB,
   op1 4 .cpC, op1 4 .cpD, op1 4 .cpE, op1 4 .cpH, op1 4 .cpL, op1 8 .cpMemHL, op1 4 .cpA]

/-- Row Cx of R305. -/
def opRowC : List Cell :=
  [op1c 20 8 .retNz, op1 12 .popBC, op3c 16 12 .jpNzA16, op3 16 .jpA16, op3c 24 12 .callNzA16, op1 16 .pushBC,
   op2 8 .addAD8, op1 16 .rst00H, op1c 20 8 .retZ, op1 16 .ret, op3c 16 12 .jpZA16, .escape, op3c 24 12 .callZA16,
   op3 24 .callA16, op2 8 .adcAD8, op1 16 .rst08H]

/-- Row Dx of R305. -/
def opRowD : List Cell :=
  [op1c 20 8 .retNc, op1 12 .popDE, op3c 16 12 .jpNcA16, .undefined .undefD3, op3c 24 12 .callNcA16, op1 16 .pushDE,
   op2 8 .subD8, op1 16 .rst10H, op1c 20 8 .retC, op1 16 .reti, op3c 16 12 .jpCA16, .undefined .undefDB,
   op3c 24 12 .callCA16, .undefined .undefDD, op2 8 .sbcAD8, op1 16 .rst18H]

/-- Row Ex of R305. -/
def opRowE : List Cell :=
  [op2 12 .ldhMemA8A, op1 12 .popHL, op1 8 .ldMemCA, .undefined .undefE3, .undefined .undefE4, op1 16 .pushHL,
   op2 8 .andD8, op1 16 .rst20H, op2 16 .addSPR8, op1 4 .jpHL, op3 16 .ldMemA16A, .undefined .undefEB,
   .undefined .undefEC, .undefined .undefED, op2 8 .xorD8, op1 16 .rst28H]

/-- Row Fx of R305. -/
def opRowF : List Cell :=
  [op2 12 .ldhAMemA8, op1 12 .popAF, op1 8 .ldAMemC, op1 4 .di, .undefined .undefF4, op1 16 .pushAF, op2 8 .orD8,
   op1 16 .rst30H, op2 12 .ldHLSPR8, op1 8 .ldSPHL, op3 16 .ldAMemA16, op1 4 .ei, .undefined .undefFC,
   .undefined .undefFD, op2 8 .cpD8, op1 16 .rst38H]

/-- The one-byte opcode map R305. -/
def opMap : List (List Cell) :=
  [opRow0, opRow1, opRow2, opRow3, opRow4, opRow5, opRow6, opRow7] ++
  [opRow8, opRow9, opRowA, opRowB, opRowC, opRowD, opRowE, opRowF]

/-- The cell of the one-byte opcode `b`. -/
def opCell (b : Byte) : Cell := (opMap.getD (b.toNat / 16) []).getD (b.toNat % 16) .escape

/-- `(2; c)` in the prefix space: the two bytes are the opcode, there is no operand (R300, R306). -/
def cb (c : Nat) (i : Instr) : Entry := ⟨2, c, Option.none, .none i⟩

/-- Row 0x of R306. -/
def cbRow0 : List Entry :=
  [cb 8 .rlcB, cb 8 .rlcC, cb 8 .rlcD, cb 8 .rlcE, cb 8 .rlcH, cb 8 .rlcL, cb 16 .rlcMemHL, cb 8 .rlcA, cb 8 .rrcB,
   cb 8 .rrcC, cb 8 .rrcD, cb 8 .rrcE, cb 8 .rrcH, cb 8 .rrcL, cb 16 .rrcMemHL, cb 8 .rrcA]

/-- Row 1x of R306. -/
def cbRow1 : List Entry :=
  [cb 8 .rlB, cb 8 .rlC, cb 8 .rlD, cb 8 .rlE, cb 8 .rlH, cb 8 .rlL, cb 16 .rlMemHL, cb 8 .rlA, cb 8 .rrB, cb 8 .rrC,
   cb 8 .rrD, cb 8 .rrE, cb 8 .rrH, cb 8 .rrL, cb 16 .rrMemHL, cb 8 .rrA]

/-- Row 2x of R306. -/
def cbRow2 : List Entry :=
  [cb 8 .slaB, cb 8 .slaC, cb 8 .slaD, cb 8 .slaE, cb 8 .slaH, cb 8 .slaL, cb 16 .slaMemHL, cb 8 .slaA, cb 8 .sraB,
   cb 8 .sraC, cb 8 .sraD, cb 8 .sraE, cb 8 .sraH, cb 8 .sraL, cb 16 .sraMemHL, cb 8 .sraA]

/-- Row 3x of R306. -/
def cbRow3 : List Entry :=
  [cb 8 .swapB, cb 8 .swapC, cb 8 .swapD, cb 8 .swapE, cb 8 .swapH, cb 8 .swapL, cb 16 .swapMemHL, cb 8 .swapA,
   cb 8 .srlB, cb 8 .srlC, cb 8 .srlD, cb 8 .srlE, cb 8 .srlH, cb 8 .srlL, cb 16 .srlMemHL, cb 8 .srlA]

/-- Row 4x of R306. -/
def cbRow4 : List Entry :=
  [cb 8 .bit0B, cb 8 .bit0C, cb 8 .bit0D, cb 8 .bit0E, cb 8 .bit0H, cb 8 .bit0L, cb 12 .bit0MemHL, cb 8 .bit0A,
   cb 8 .bit1B, cb 8 .bit1C, cb 8 .bit1D, cb 8 .bit1E, cb 8 .bit1H, cb 8 .bit1L, cb 12 .bit1MemHL, cb 8 .bit1A]

/-- Row 5x of R306. -/
def cbRow5 : List Entry :=
  [cb 8 .bit2B, cb 8 .bit2C, cb 8 .bit2D, cb 8 .bit2E, cb 8 .bit2H, cb 8 .bit2L, cb 12 .bit2MemHL, cb 8 .bit2A,
   cb 8 .bit3B, cb 8 .bit3C, cb 8 .bit3D, cb 8 .bit3E, cb 8 .bit3H, cb 8 .bit3L, cb 12 .bit3MemHL, cb 8 .bit3A]

/-- Row 6x of R306. -/
def cbRow6 : List Entry :=
  [cb 8 .bit4B, cb 8 .bit4C, cb 8 .bit4D, cb 8 .bit4E, cb 8 .bit4H, cb 8 .bit4L, cb 12 .bit4MemHL, cb 8 .bit4A,
   cb 8 .bit5B, cb 8 .bit5C, cb 8 .bit5D, cb 8 .bit5E, cb 8 .bit5H, cb 8 .bit5L, cb 12 .bit5MemHL, cb 8 .bit5A]

/-- Row 7x of R306. -/
def cbRow7 : List Entry :=
  [cb 8 .bit6B, cb 8 .bit6C, cb 8 .bit6D, cb 8 .bit6E, cb 8 .bit6H, cb 8 .bit6L, cb 12 .bit6MemHL, cb 8 .bit6A,
   cb 8 .bit7B, cb 8 .bit7C, cb 8 .bit7D, cb 8 .bit7E, cb 8 .bit7H, cb 8 .bit7L, cb 12 .bit7MemHL, cb 8 .bit7A]

/-- Row 8x of R306. -/
def cbRow8 : List Entry :=
  [cb 8 .res0B, cb 8 .res0C, cb 8 .res0D, cb 8 .res0E, cb 8 .res0H, cb 8 .res0L, cb 16 .res0MemHL, cb 8 .res0A,
   cb 8 .res1B, cb 8 .res1C, cb 8 .res1D, cb 8 .res1E, cb 8 .res1H, cb 8 .res1L, cb 16 .res1MemHL, cb 8 .res1A]

/-- Row 9x of R306. -/
def cbRow9 : List Entry :=
  [cb 8 .res2B, cb 8 .res2C, cb 8 .res2D, cb 8 .res2E, cb 8 .res2H, cb 8 .res2L, cb 16 .res2MemHL, cb 8 .res2A,
   cb 8 .res3B, cb 8 .res3C, cb 8 .res3D, cb 8 .res3E, cb 8 .res3H, cb 8 .res3L, cb 16 .res3MemHL, cb 8 .res3A]

/-- Row Ax of R306. -/
def cbRowA : List Entry :=
  [cb 8 .res4B, cb 8 .res4C, cb 8 .res4D, cb 8 .res4E, cb 8 .res4H, cb 8 .res4L, cb 16 .res4MemHL, cb 8 .res4A,
   cb 8 .res5B, cb 8 .res5C, cb 8 .res5D, cb 8 .res5E, cb 8 .res5H, cb 8 .res5L, cb 16 .res5MemHL, cb 8 .res5A]

/-- Row Bx of R306. -/
def cbRowB : List Entry :=
  [cb 8 .res6B, cb 8 .res6C, cb 8 .res6D, cb 8 .res6E, cb 8 .res6H, cb 8 .res6L, cb 16 .res6MemHL, cb 8 .res6A,
   cb 8 .res7B, cb 8 .res7C, cb 8 .res7D, cb 8 .res7E, cb 8 .res7H, cb 8 .res7L, cb 16 .res7MemHL, cb 8 .res7A]

/-- Row Cx of R306. -/
def cbRowC : List Entry :=
  [cb 8 .set0B, cb 8 .set0C, cb 8 .set0D, cb 8 .set0E, cb 8 .set0H, cb 8 .set0L, cb 16 .set0MemHL, cb 8 .set0A,
   cb 8 .set1B, cb 8 .set1C, cb 8 .set1D, cb 8 .set1E, cb 8 .set1H, cb 8 .set1L, cb 16 .set1MemHL, cb 8 .set1A]

/-- Row Dx of R306. -/
def cbRowD : List Entry :=
  [cb 8 .set2B, cb 8 .set2C, cb 8 .set2D, cb 8 .set2E, cb 8 .set2H, cb 8 .set2L, cb 16 .set2MemHL, cb 8 .set2A,
   cb 8 .set3B, cb 8 .set3C, cb 8 .set3D, cb 8 .set3E, cb 8 .set3H, cb 8 .set3L, cb 16 .set3MemHL, cb 8 .set3A]

/-- Row Ex of R306. -/
def cbRowE : List Entry :=
  [cb 8 .set4B, cb 8 .set4C, cb 8 .set4D, cb 8 .set4E, cb 8 .set4H, cb 8 .set4L, cb 16 .set4MemHL, cb 8 .set4A,
   cb 8 .set5B, cb 8 .set5C, cb 8 .set5D, cb 8 .set5E, cb 8 .set5H, cb 8 .set5L, cb 16 .set5MemHL, cb 8 .set5A]

/-- Row Fx of R306. -/
def cbRowF : List Entry :=
  [cb 8 .set6B, cb 8 .set6C, cb 8 .set6D, cb 8 .set6E, cb 8 .set6H, cb 8 .set6L, cb 16 .set6MemHL, cb 8 .set6A,
   cb 8 .set7B, cb 8 .set7C, cb 8 .set7D, cb 8 .set7E, cb 8 .set7H, cb 8 .set7L, cb 16 .set7MemHL, cb 8 .set7A]

/-- The prefix map R306. -/
def cbMap : List (List Entry) :=
  [cbRow0, cbRow1, cbRow2, cbRow3, cbRow4, cbRow5, cbRow6, cbRow7] ++
  [cbRow8, cbRow9, cbRowA, cbRowB, cbRowC, cbRowD, cbRowE, cbRowF]

/-- The entry of the prefix opcode `0xCB, b`; all 256 are defined (R306). -/
def cbEntry (b : Byte) : Entry := (cbMap.getD (b.toNat / 16) []).getD (b.toNat % 16) (cb 4 .nop)

/-- Why a byte sequence is no whole instruction. -/
inductive DecodeError where
  /-- no byte at all -/
  | noOpcodeByte
  /-- the prefix 0xCB with no second byte -/
  | noPrefixedByte
  /-- an operand byte is missing -/
  | noOperandByte
deriving DecidableEq, Repr

/-- The operand bytes of an entry, taken from the bytes after the opcode (R304: the low byte of an n16 first). -/
def takeOperand : Operand → List Byte → Except DecodeError (Instr × List Byte)
  | .none i, rest => .ok (i, rest)
  | .skip i, _ :: rest => .ok (i, rest)
  | .byte f, n :: rest => .ok (f n, rest)
  | .word f, lo :: hi :: rest => .ok (f (wordOf hi lo), rest)
  | _, _ => .error .noOperandByte

/-- Decode the first instruction of a byte sequence and give the rest (R301, R302). -/
def decode : List Byte → Except DecodeError (Instr × List Byte)
  | [] => .error .noOpcodeByte
  | b0 :: rest =>
    if b0 = 0xCB then
      match rest with
      | [] => .error .noPrefixedByte
      | b1 :: rest => takeOperand (cbEntry b1).operand rest
    else
      match opCell b0 with
      | .entry e => takeOperand e.operand rest
      | .undefined i => .ok (i, rest)
      | .escape => .error .noPrefixedByte

/-- The bytes of an instruction in fetch order (R302). STOP's second byte, which is never read, is written 0x00. DESIGN CHOICE,
safe (log 15). -/
def encode : Instr → List Byte
  | .nop => [0x00]
  | .ldBCD16 nn => [0x01, loByte nn, hiByte nn]
  | .ldMemBCA => [0x02]
  | .incBC => [0x03]
  | .incB => [0x04]
  | .decB => [0x05]
  | .ldBD8 n => [0x06, n]
  | .rlca => [0x07]
  | .ldMemA16SP nn => [0x08, loByte nn, hiByte nn]
  | .addHLBC => [0x09]
  | .ldAMemBC => [0x0A]
  | .decBC => [0x0B]
  | .incC => [0x0C]
  | .decC => [0x0D]
  | .ldCD8 n => [0x0E, n]
  | .rrca => [0x0F]
  | .stop => [0x10, 0x00]
  | .ldDED16 nn => [0x11, loByte nn, hiByte nn]
  | .ldMemDEA => [0x12]
  | .incDE => [0x13]
  | .incD => [0x14]
  | .decD => [0x15]
  | .ldDD8 n => [0x16, n]
  | .rla => [0x17]
  | .jrR8 e => [0x18, e]
  | .addHLDE => [0x19]
  | .ldAMemDE => [0x1A]
  | .decDE => [0x1B]
  | .incE => [0x1C]
  | .decE => [0x1D]
  | .ldED8 n => [0x1E, n]
  | .rra => [0x1F]
  | .jrNzR8 e => [0x20, e]
  | .ldHLD16 nn => [0x21, loByte nn, hiByte nn]
  | .ldMemHLIncA => [0x22]
  | .incHL => [0x23]
  | .incH => [0x24]
  | .decH => [0x25]
  | .ldHD8 n => [0x26, n]
  | .daa => [0x27]
  | .jrZR8 e => [0x28, e]
  | .addHLHL => [0x29]
  | .ldAMemHLInc => [0x2A]
  | .decHL => [0x2B]
  | .incL => [0x2C]
  | .decL => [0x2D]
  | .ldLD8 n => [0x2E, n]
  | .cpl => [0x2F]
  | .jrNcR8 e => [0x30, e]
  | .ldSPD16 nn => [0x31, loByte nn, hiByte nn]
  | .ldMemHLDecA => [0x32]
  | .incSP => [0x33]
  | .incMemHL => [0x34]
  | .decMemHL => [0x35]
  | .ldMemHLD8 n => [0x36, n]
  | .scf => [0x37]
  | .jrCR8 e => [0x38, e]
  | .addHLSP => [0x39]
  | .ldAMemHLDec => [0x3A]
  | .decSP => [0x3B]
  | .incA => [0x3C]
  | .decA => [0x3D]
  | .ldAD8 n => [0x3E, n]
  | .ccf => [0x3F]
  | .ldBB => [0x40]
  | .ldBC => [0x41]
  | .ldBD => [0x42]
  | .ldBE => [0x43]
  | .ldBH => [0x44]
  | .ldBL => [0x45]
  | .ldBMemHL => [0x46]
  | .ldBA => [0x47]
  | .ldCB => [0x48]
  | .ldCC => [0x49]
  | .ldCD => [0x4A]
  | .ldCE => [0x4B]
  | .ldCH => [0x4C]
  | .ldCL => [0x4D]
  | .ldCMemHL => [0x4E]
  | .ldCA => [0x4F]
  | .ldDB => [0x50]
  | .ldDC => [0x51]
  | .ldDD => [0x52]
  | .ldDE => [0x53]
  | .ldDH => [0x54]
  | .ldDL => [0x55]
  | .ldDMemHL => [0x56]
  | .ldDA => [0x57]
  | .ldEB => [0x58]
  | .ldEC => [0x59]
  | .ldED => [0x5A]
  | .ldEE => [0x5B]
  | .ldEH => [0x5C]
  | .ldEL => [0x5D]
  | .ldEMemHL => [0x5E]
  | .ldEA => [0x5F]
  | .ldHB => [0x60]
  | .ldHC => [0x61]
  | .ldHD => [0x62]
  | .ldHE => [0x63]
  | .ldHH => [0x64]
  | .ldHL => [0x65]
  | .ldHMemHL => [0x66]
  | .ldHA => [0x67]
  | .ldLB => [0x68]
  | .ldLC => [0x69]
  | .ldLD => [0x6A]
  | .ldLE => [0x6B]
  | .ldLH => [0x6C]
  | .ldLL => [0x6D]
  | .ldLMemHL => [0x6E]
  | .ldLA => [0x6F]
  | .ldMemHLB => [0x70]
  | .ldMemHLC => [0x71]
  | .ldMemHLD => [0x72]
  | .ldMemHLE => [0x73]
  | .ldMemHLH => [0x74]
  | .ldMemHLL => [0x75]
  | .halt => [0x76]
  | .ldMemHLA => [0x77]
  | .ldAB => [0x78]
  | .ldAC => [0x79]
  | .ldAD => [0x7A]
  | .ldAE => [0x7B]
  | .ldAH => [0x7C]
  | .ldAL => [0x7D]
  | .ldAMemHL => [0x7E]
  | .ldAA => [0x7F]
  | .addAB => [0x80]
  | .addAC => [0x81]
  | .addAD => [0x82]
  | .addAE => [0x83]
  | .addAH => [0x84]
  | .addAL => [0x85]
  | .addAMemHL => [0x86]
  | .addAA => [0x87]
  | .adcAB => [0x88]
  | .adcAC => [0x89]
  | .adcAD => [0x8A]
  | .adcAE => [0x8B]
  | .adcAH => [0x8C]
  | .adcAL => [0x8D]
  | .adcAMemHL => [0x8E]
  | .adcAA => [0x8F]
  | .subB => [0x90]
  | .subC => [0x91]
  | .subD => [0x92]
  | .subE => [0x93]
  | .subH => [0x94]
  | .subL => [0x95]
  | .subMemHL => [0x96]
  | .subA => [0x97]
  | .sbcAB => [0x98]
  | .sbcAC => [0x99]
  | .sbcAD => [0x9A]
  | .sbcAE => [0x9B]
  | .sbcAH => [0x9C]
  | .sbcAL => [0x9D]
  | .sbcAMemHL => [0x9E]
  | .sbcAA => [0x9F]
  | .andB => [0xA0]
  | .andC => [0xA1]
  | .andD => [0xA2]
  | .andE => [0xA3]
  | .andH => [0xA4]
  | .andL => [0xA5]
  | .andMemHL => [0xA6]
  | .andA => [0xA7]
  | .xorB => [0xA8]
  | .xorC => [0xA9]
  | .xorD => [0xAA]
  | .xorE => [0xAB]
  | .xorH => [0xAC]
  | .xorL => [0xAD]
  | .xorMemHL => [0xAE]
  | .xorA => [0xAF]
  | .orB => [0xB0]
  | .orC => [0xB1]
  | .orD => [0xB2]
  | .orE => [0xB3]
  | .orH => [0xB4]
  | .orL => [0xB5]
  | .orMemHL => [0xB6]
  | .orA => [0xB7]
  | .cpB => [0xB8]
  | .cpC => [0xB9]
  | .cpD => [0xBA]
  | .cpE => [0xBB]
  | .cpH => [0xBC]
  | .cpL => [0xBD]
  | .cpMemHL => [0xBE]
  | .cpA => [0xBF]
  | .retNz => [0xC0]
  | .popBC => [0xC1]
  | .jpNzA16 nn => [0xC2, loByte nn, hiByte nn]
  | .jpA16 nn => [0xC3, loByte nn, hiByte nn]
  | .callNzA16 nn => [0xC4, loByte nn, hiByte nn]
  | .pushBC => [0xC5]
  | .addAD8 n => [0xC6, n]
  | .rst00H => [0xC7]
  | .retZ => [0xC8]
  | .ret => [0xC9]
  | .jpZA16 nn => [0xCA, loByte nn, hiByte nn]
  | .callZA16 nn => [0xCC, loByte nn, hiByte nn]
  | .callA16 nn => [0xCD, loByte nn, hiByte nn]
  | .adcAD8 n => [0xCE, n]
  | .rst08H => [0xCF]
  | .retNc => [0xD0]
  | .popDE => [0xD1]
  | .jpNcA16 nn => [0xD2, loByte nn, hiByte nn]
  | .callNcA16 nn => [0xD4, loByte nn, hiByte nn]
  | .pushDE => [0xD5]
  | .subD8 n => [0xD6, n]
  | .rst10H => [0xD7]
  | .retC => [0xD8]
  | .reti => [0xD9]
  | .jpCA16 nn => [0xDA, loByte nn, hiByte nn]
  | .callCA16 nn => [0xDC, loByte nn, hiByte nn]
  | .sbcAD8 n => [0xDE, n]
  | .rst18H => [0xDF]
  | .ldhMemA8A n => [0xE0, n]
  | .popHL => [0xE1]
  | .ldMemCA => [0xE2]
  | .pushHL => [0xE5]
  | .andD8 n => [0xE6, n]
  | .rst20H => [0xE7]
  | .addSPR8 e => [0xE8, e]
  | .jpHL => [0xE9]
  | .ldMemA16A nn => [0xEA, loByte nn, hiByte nn]
  | .xorD8 n => [0xEE, n]
  | .rst28H => [0xEF]
  | .ldhAMemA8 n => [0xF0, n]
  | .popAF => [0xF1]
  | .ldAMemC => [0xF2]
  | .di => [0xF3]
  | .pushAF => [0xF5]
  | .orD8 n => [0xF6, n]
  | .rst30H => [0xF7]
  | .ldHLSPR8 e => [0xF8, e]
  | .ldSPHL => [0xF9]
  | .ldAMemA16 nn => [0xFA, loByte nn, hiByte nn]
  | .ei => [0xFB]
  | .cpD8 n => [0xFE, n]
  | .rst38H => [0xFF]
  | .undefD3 => [0xD3]
  | .undefDB => [0xDB]
  | .undefDD => [0xDD]
  | .undefE3 => [0xE3]
  | .undefE4 => [0xE4]
  | .undefEB => [0xEB]
  | .undefEC => [0xEC]
  | .undefED => [0xED]
  | .undefF4 => [0xF4]
  | .undefFC => [0xFC]
  | .undefFD => [0xFD]
  | .rlcB => [0xCB, 0x00]
  | .rlcC => [0xCB, 0x01]
  | .rlcD => [0xCB, 0x02]
  | .rlcE => [0xCB, 0x03]
  | .rlcH => [0xCB, 0x04]
  | .rlcL => [0xCB, 0x05]
  | .rlcMemHL => [0xCB, 0x06]
  | .rlcA => [0xCB, 0x07]
  | .rrcB => [0xCB, 0x08]
  | .rrcC => [0xCB, 0x09]
  | .rrcD => [0xCB, 0x0A]
  | .rrcE => [0xCB, 0x0B]
  | .rrcH => [0xCB, 0x0C]
  | .rrcL => [0xCB, 0x0D]
  | .rrcMemHL => [0xCB, 0x0E]
  | .rrcA => [0xCB, 0x0F]
  | .rlB => [0xCB, 0x10]
  | .rlC => [0xCB, 0x11]
  | .rlD => [0xCB, 0x12]
  | .rlE => [0xCB, 0x13]
  | .rlH => [0xCB, 0x14]
  | .rlL => [0xCB, 0x15]
  | .rlMemHL => [0xCB, 0x16]
  | .rlA => [0xCB, 0x17]
  | .rrB => [0xCB, 0x18]
  | .rrC => [0xCB, 0x19]
  | .rrD => [0xCB, 0x1A]
  | .rrE => [0xCB, 0x1B]
  | .rrH => [0xCB, 0x1C]
  | .rrL => [0xCB, 0x1D]
  | .rrMemHL => [0xCB, 0x1E]
  | .rrA => [0xCB, 0x1F]
  | .slaB => [0xCB, 0x20]
  | .slaC => [0xCB, 0x21]
  | .slaD => [0xCB, 0x22]
  | .slaE => [0xCB, 0x23]
  | .slaH => [0xCB, 0x24]
  | .slaL => [0xCB, 0x25]
  | .slaMemHL => [0xCB, 0x26]
  | .slaA => [0xCB, 0x27]
  | .sraB => [0xCB, 0x28]
  | .sraC => [0xCB, 0x29]
  | .sraD => [0xCB, 0x2A]
  | .sraE => [0xCB, 0x2B]
  | .sraH => [0xCB, 0x2C]
  | .sraL => [0xCB, 0x2D]
  | .sraMemHL => [0xCB, 0x2E]
  | .sraA => [0xCB, 0x2F]
  | .swapB => [0xCB, 0x30]
  | .swapC => [0xCB, 0x31]
  | .swapD => [0xCB, 0x32]
  | .swapE => [0xCB, 0x33]
  | .swapH => [0xCB, 0x34]
  | .swapL => [0xCB, 0x35]
  | .swapMemHL => [0xCB, 0x36]
  | .swapA => [0xCB, 0x37]
  | .srlB => [0xCB, 0x38]
  | .srlC => [0xCB, 0x39]
  | .srlD => [0xCB, 0x3A]
  | .srlE => [0xCB, 0x3B]
  | .srlH => [0xCB, 0x3C]
  | .srlL => [0xCB, 0x3D]
  | .srlMemHL => [0xCB, 0x3E]
  | .srlA => [0xCB, 0x3F]
  | .bit0B => [0xCB, 0x40]
  | .bit0C => [0xCB, 0x41]
  | .bit0D => [0xCB, 0x42]
  | .bit0E => [0xCB, 0x43]
  | .bit0H => [0xCB, 0x44]
  | .bit0L => [0xCB, 0x45]
  | .bit0MemHL => [0xCB, 0x46]
  | .bit0A => [0xCB, 0x47]
  | .bit1B => [0xCB, 0x48]
  | .bit1C => [0xCB, 0x49]
  | .bit1D => [0xCB, 0x4A]
  | .bit1E => [0xCB, 0x4B]
  | .bit1H => [0xCB, 0x4C]
  | .bit1L => [0xCB, 0x4D]
  | .bit1MemHL => [0xCB, 0x4E]
  | .bit1A => [0xCB, 0x4F]
  | .bit2B => [0xCB, 0x50]
  | .bit2C => [0xCB, 0x51]
  | .bit2D => [0xCB, 0x52]
  | .bit2E => [0xCB, 0x53]
  | .bit2H => [0xCB, 0x54]
  | .bit2L => [0xCB, 0x55]
  | .bit2MemHL => [0xCB, 0x56]
  | .bit2A => [0xCB, 0x57]
  | .bit3B => [0xCB, 0x58]
  | .bit3C => [0xCB, 0x59]
  | .bit3D => [0xCB, 0x5A]
  | .bit3E => [0xCB, 0x5B]
  | .bit3H => [0xCB, 0x5C]
  | .bit3L => [0xCB, 0x5D]
  | .bit3MemHL => [0xCB, 0x5E]
  | .bit3A => [0xCB, 0x5F]
  | .bit4B => [0xCB, 0x60]
  | .bit4C => [0xCB, 0x61]
  | .bit4D => [0xCB, 0x62]
  | .bit4E => [0xCB, 0x63]
  | .bit4H => [0xCB, 0x64]
  | .bit4L => [0xCB, 0x65]
  | .bit4MemHL => [0xCB, 0x66]
  | .bit4A => [0xCB, 0x67]
  | .bit5B => [0xCB, 0x68]
  | .bit5C => [0xCB, 0x69]
  | .bit5D => [0xCB, 0x6A]
  | .bit5E => [0xCB, 0x6B]
  | .bit5H => [0xCB, 0x6C]
  | .bit5L => [0xCB, 0x6D]
  | .bit5MemHL => [0xCB, 0x6E]
  | .bit5A => [0xCB, 0x6F]
  | .bit6B => [0xCB, 0x70]
  | .bit6C => [0xCB, 0x71]
  | .bit6D => [0xCB, 0x72]
  | .bit6E => [0xCB, 0x73]
  | .bit6H => [0xCB, 0x74]
  | .bit6L => [0xCB, 0x75]
  | .bit6MemHL => [0xCB, 0x76]
  | .bit6A => [0xCB, 0x77]
  | .bit7B => [0xCB, 0x78]
  | .bit7C => [0xCB, 0x79]
  | .bit7D => [0xCB, 0x7A]
  | .bit7E => [0xCB, 0x7B]
  | .bit7H => [0xCB, 0x7C]
  | .bit7L => [0xCB, 0x7D]
  | .bit7MemHL => [0xCB, 0x7E]
  | .bit7A => [0xCB, 0x7F]
  | .res0B => [0xCB, 0x80]
  | .res0C => [0xCB, 0x81]
  | .res0D => [0xCB, 0x82]
  | .res0E => [0xCB, 0x83]
  | .res0H => [0xCB, 0x84]
  | .res0L => [0xCB, 0x85]
  | .res0MemHL => [0xCB, 0x86]
  | .res0A => [0xCB, 0x87]
  | .res1B => [0xCB, 0x88]
  | .res1C => [0xCB, 0x89]
  | .res1D => [0xCB, 0x8A]
  | .res1E => [0xCB, 0x8B]
  | .res1H => [0xCB, 0x8C]
  | .res1L => [0xCB, 0x8D]
  | .res1MemHL => [0xCB, 0x8E]
  | .res1A => [0xCB, 0x8F]
  | .res2B => [0xCB, 0x90]
  | .res2C => [0xCB, 0x91]
  | .res2D => [0xCB, 0x92]
  | .res2E => [0xCB, 0x93]
  | .res2H => [0xCB, 0x94]
  | .res2L => [0xCB, 0x95]
  | .res2MemHL => [0xCB, 0x96]
  | .res2A => [0xCB, 0x97]
  | .res3B => [0xCB, 0x98]
  | .res3C => [0xCB, 0x99]
  | .res3D => [0xCB, 0x9A]
  | .res3E => [0xCB, 0x9B]
  | .res3H => [0xCB, 0x9C]
  | .res3L => [0xCB, 0x9D]
  | .res3MemHL => [0xCB, 0x9E]
  | .res3A => [0xCB, 0x9F]
  | .res4B => [0xCB, 0xA0]
  | .res4C => [0xCB, 0xA1]
  | .res4D => [0xCB, 0xA2]
  | .res4E => [0xCB, 0xA3]
  | .res4H => [0xCB, 0xA4]
  | .res4L => [0xCB, 0xA5]
  | .res4MemHL => [0xCB, 0xA6]
  | .res4A => [0xCB, 0xA7]
  | .res5B => [0xCB, 0xA8]
  | .res5C => [0xCB, 0xA9]
  | .res5D => [0xCB, 0xAA]
  | .res5E => [0xCB, 0xAB]
  | .res5H => [0xCB, 0xAC]
  | .res5L => [0xCB, 0xAD]
  | .res5MemHL => [0xCB, 0xAE]
  | .res5A => [0xCB, 0xAF]
  | .res6B => [0xCB, 0xB0]
  | .res6C => [0xCB, 0xB1]
  | .res6D => [0xCB, 0xB2]
  | .res6E => [0xCB, 0xB3]
  | .res6H => [0xCB, 0xB4]
  | .res6L => [0xCB, 0xB5]
  | .res6MemHL => [0xCB, 0xB6]
  | .res6A => [0xCB, 0xB7]
  | .res7B => [0xCB, 0xB8]
  | .res7C => [0xCB, 0xB9]
  | .res7D => [0xCB, 0xBA]
  | .res7E => [0xCB, 0xBB]
  | .res7H => [0xCB, 0xBC]
  | .res7L => [0xCB, 0xBD]
  | .res7MemHL => [0xCB, 0xBE]
  | .res7A => [0xCB, 0xBF]
  | .set0B => [0xCB, 0xC0]
  | .set0C => [0xCB, 0xC1]
  | .set0D => [0xCB, 0xC2]
  | .set0E => [0xCB, 0xC3]
  | .set0H => [0xCB, 0xC4]
  | .set0L => [0xCB, 0xC5]
  | .set0MemHL => [0xCB, 0xC6]
  | .set0A => [0xCB, 0xC7]
  | .set1B => [0xCB, 0xC8]
  | .set1C => [0xCB, 0xC9]
  | .set1D => [0xCB, 0xCA]
  | .set1E => [0xCB, 0xCB]
  | .set1H => [0xCB, 0xCC]
  | .set1L => [0xCB, 0xCD]
  | .set1MemHL => [0xCB, 0xCE]
  | .set1A => [0xCB, 0xCF]
  | .set2B => [0xCB, 0xD0]
  | .set2C => [0xCB, 0xD1]
  | .set2D => [0xCB, 0xD2]
  | .set2E => [0xCB, 0xD3]
  | .set2H => [0xCB, 0xD4]
  | .set2L => [0xCB, 0xD5]
  | .set2MemHL => [0xCB, 0xD6]
  | .set2A => [0xCB, 0xD7]
  | .set3B => [0xCB, 0xD8]
  | .set3C => [0xCB, 0xD9]
  | .set3D => [0xCB, 0xDA]
  | .set3E => [0xCB, 0xDB]
  | .set3H => [0xCB, 0xDC]
  | .set3L => [0xCB, 0xDD]
  | .set3MemHL => [0xCB, 0xDE]
  | .set3A => [0xCB, 0xDF]
  | .set4B => [0xCB, 0xE0]
  | .set4C => [0xCB, 0xE1]
  | .set4D => [0xCB, 0xE2]
  | .set4E => [0xCB, 0xE3]
  | .set4H => [0xCB, 0xE4]
  | .set4L => [0xCB, 0xE5]
  | .set4MemHL => [0xCB, 0xE6]
  | .set4A => [0xCB, 0xE7]
  | .set5B => [0xCB, 0xE8]
  | .set5C => [0xCB, 0xE9]
  | .set5D => [0xCB, 0xEA]
  | .set5E => [0xCB, 0xEB]
  | .set5H => [0xCB, 0xEC]
  | .set5L => [0xCB, 0xED]
  | .set5MemHL => [0xCB, 0xEE]
  | .set5A => [0xCB, 0xEF]
  | .set6B => [0xCB, 0xF0]
  | .set6C => [0xCB, 0xF1]
  | .set6D => [0xCB, 0xF2]
  | .set6E => [0xCB, 0xF3]
  | .set6H => [0xCB, 0xF4]
  | .set6L => [0xCB, 0xF5]
  | .set6MemHL => [0xCB, 0xF6]
  | .set6A => [0xCB, 0xF7]
  | .set7B => [0xCB, 0xF8]
  | .set7C => [0xCB, 0xF9]
  | .set7D => [0xCB, 0xFA]
  | .set7E => [0xCB, 0xFB]
  | .set7H => [0xCB, 0xFC]
  | .set7L => [0xCB, 0xFD]
  | .set7MemHL => [0xCB, 0xFE]
  | .set7A => [0xCB, 0xFF]

/-- Byte `k` of a number, byte 0 the least significant. -/
def byteOfNat (w k : Nat) : Byte := BitVec.ofNat 8 (w / 256 ^ k)

/-- The bytes, in fetch order, of an instruction given as spec/opcode_table.json numbers its bits: bit 0 is the least significant
bit of the first byte and the second byte is bits 15 to 8, but a prefix row is numbered by R312 as `b0 * 256 + b1`, so a 16-bit
number with 0xCB in bits 15 to 8 is `[0xCB, bits 7 to 0]`. DEDUCED, safe (log 10). -/
def tableBytes (nbits w : Nat) : List Byte :=
  if nbits = 16 ∧ w / 256 % 256 = 0xCB then [0xCB, byteOfNat w 0]
  else (List.range (nbits / 8)).map (byteOfNat w)

/-- The bytes of `tableBytes`, with zeros above them up to the longest instruction, three bytes. -/
def tableInstrBytes (nbits w : Nat) : List Byte := (tableBytes nbits w ++ [0, 0, 0]).take 3

/-- The instruction the decoder reads from a table word (none where it refuses). -/
def decodeTableWord (nbits w : Nat) : Option Instr :=
  match decode (tableInstrBytes nbits w) with
  | .ok (i, _) => some i
  | .error _ => none

end Sys2Proof
end

