-- ==== Sys2Proof/Machine/Fetch.lean ====
section
/-! DEFINITION. Fetching an instruction: the opcode bytes (R403), the table lookup (R404), the operand bytes (R405). -/

namespace Sys2Proof.Machine

open Sys2Proof

/-- A fetched opcode: its decoded value (0x00 to 0xFF, or 0xCB00 with the second byte, R301) and its table entry. -/
structure Fetched where
  opcode : BitVec 16
  entry : Entry

/-- Fetch and look up the opcode at `p` (R403, R404, R1302 (1) to (3)). The cell of 0xCB is never looked up: the prefix test comes
first. -/
def fetchEntry (s : State) (p : Word) : Except FaultRecord Fetched :=
  match s.memRead p with
  | .error f => .error f
  | .ok b0 =>
    if b0 = 0xCB then
      if 0xFFFF < p.toNat + 1 then .error (.pcRange (p.toNat + 1))
      else
        match s.memRead (p + 1) with
        | .error f => .error f
        | .ok b1 => .ok ⟨wordOf 0xCB b1, cbEntry b1⟩
    else
      match opCell b0 with
      | .entry e => .ok ⟨wordOf 0 b0, e⟩
      | .undefined _ => .error (.undefinedOpcode b0 p)
      | .escape => .error (.undefinedOpcode b0 p)

/-- Fetch the operand of an entry whose opcode is at `p` and give the instruction (R405): the low byte of an n16 first. -/
def fetchOperand (s : State) (p : Word) (o : Operand) : Except FaultRecord Instr :=
  match o with
  | .none i => .ok i
  | .skip i => .ok i
  | .byte f =>
    match s.memRead (p + 1) with
    | .error e => .error e
    | .ok n => .ok (f n)
  | .word f =>
    match s.memRead (p + 1) with
    | .error e => .error e
    | .ok lo =>
      match s.memRead (p + 2) with
      | .error e => .error e
      | .ok hi => .ok (f (wordOf hi lo))

/-- Store one byte where the fetch at CPU address `addr` reads it: in the ROM image (made long enough), in the external RAM
buffer (enabled, with a header that gives it 32 KiB, where it is not reached already), or in the raw bus. Used by
`State.withFetchWord` only (log 11). -/
def State.placeByte (addr : Word) (v : Byte) (s : State) : State :=
  let a := addr.toNat
  if a < 0x8000 then
    let i := s.romIndex a
    { s with cart :=
      { s.cart with
        rom := Store.write Config.romUnlisted s.cart.rom i v, romLen := max s.cart.romLen (i + 1) } }
  else if 0xA000 ≤ a ∧ a < 0xC000 then
    let s :=
      if s.extRamReached a then s
      else
        { s with
          bank := { s.bank with ramEnabled := true }
          cart := { s.cart with rom := Store.write Config.romUnlisted s.cart.rom Params.headerRamOffset 0x03 } }
    s.extRamWrite a v
  else s.busPoke a v

/-- Store bytes at consecutive addresses. -/
def State.placeBytes (p : Word) (bytes : List Byte) (s : State) : State :=
  match bytes with
  | [] => s
  | b :: rest => State.placeBytes (p + 1) rest (s.placeByte p b)

/-- The decoded opcode of an instruction's bytes (R301). -/
def opcodeOf (bytes : List Byte) : BitVec 16 :=
  match bytes with
  | b0 :: b1 :: _ => if b0 = 0xCB then wordOf 0xCB b1 else wordOf 0 b0
  | b0 :: _ => wordOf 0 b0
  | [] => 0

/-- The handler set with the opcode of these bytes in it. Used by `State.withFetchWord` only. -/
def State.withHandlerFor (bytes : List Byte) (s : State) : State :=
  { s with cart := { s.cart with unhandled := s.cart.unhandled.filter fun o => o ≠ opcodeOf bytes } }

end Sys2Proof.Machine
end

