-- ==== Sys2Proof/Machine/CpuControl.lean ====
section
/-! DEFINITION. NOP, HALT, STOP, DI and EI (48_cpu_control.md). No rule writes a flag, a register or memory (R1200). -/

namespace Sys2Proof.Machine

/-- `IME <- v` (R1204, R1205). -/
def setIME (v : Bool) (s : State) : Result := .next { s with ime := v }

/-- HALT (R1202): with IME = 1 the CPU is halted; with IME = 0 the next instruction is decoded for its length and skipped. -/
def halt (s : State) : Result :=
  andThen (assignPC (s.pc.toNat + 1) s) fun s =>
  if s.ime then .next ({ s with halted := true }.returnCycles Params.idleCycles)
  else
    match fetchEntry s s.pc with
    | .error f => raise f s
    | .ok next =>
      andThen (assignPC (s.pc.toNat + next.entry.length) s) fun s =>
      .next (s.returnCycles Params.idleCycles)

/-! ## The meanings -/

/-- `NOP` (R1201). -/
def execNop (s : State) : Result := execute 1 4 .next s

/-- `STOP` (R1203). -/
def execStop (s : State) : Result := unimplemented 2 4 s

/-- `HALT` (R1202). -/
def execHalt (s : State) : Result := halt s

/-- `DI` (R1204). -/
def execDi (s : State) : Result := execute 1 4 (setIME false) s

/-- `EI` (R1205). -/
def execEi (s : State) : Result := execute 1 4 (setIME true) s

end Sys2Proof.Machine
end

