-- ==== Sys2Proof/Machine/Load16.lean ====
section
/-! DEFINITION. 16-bit loads, PUSH and POP (42_load16.md). -/

namespace Sys2Proof.Machine

/-- `rp[p] <- imm16` (R601). -/
def ldPairImm (p : Pair) (nn : Word) (s : State) : Result := .next (s.setPair p nn)

/-- The low byte of SP at `imm16`, the high byte at `trunc16(imm16 + 1)` (R602). -/
def ldMemSP (nn : Word) (s : State) : Result := .next (s.memWrite16 nn s.sp)

/-- `sp <- {H, L}` (R603). -/
def ldSPHL (s : State) : Result := assignSP s.regs.hl.toNat s

/-- `Push16(qq[p])` (R604). -/
def pushPair (q : StackPair) (s : State) : Result := push16 (s.stackPair q) s

/-- `rp[p] <- Pop16()` (R605), and for AF `A <- v[15:8]; F <- v[7:0]` (R606). -/
def popPair (q : StackPair) (s : State) : Result := pop16 s fun v s => .next (s.setStackPair q v)

/-! ## The meanings -/

/-- `LD BC,d16` (R601). -/
def execLdBCD16 (nn : Word) (s : State) : Result := execute 3 12 (ldPairImm .bc nn) s

/-- `LD (a16),SP` (R602). -/
def execLdMemA16SP (nn : Word) (s : State) : Result := execute 3 20 (ldMemSP nn) s

/-- `LD DE,d16` (R601). -/
def execLdDED16 (nn : Word) (s : State) : Result := execute 3 12 (ldPairImm .de nn) s

/-- `LD HL,d16` (R601). -/
def execLdHLD16 (nn : Word) (s : State) : Result := execute 3 12 (ldPairImm .hl nn) s

/-- `LD SP,d16` (R601). -/
def execLdSPD16 (nn : Word) (s : State) : Result := execute 3 12 (ldPairImm .sp nn) s

/-- `POP BC` (R605). -/
def execPopBC (s : State) : Result := execute 1 12 (popPair .bc) s

/-- `PUSH BC` (R604). -/
def execPushBC (s : State) : Result := execute 1 16 (pushPair .bc) s

/-- `POP DE` (R605). -/
def execPopDE (s : State) : Result := execute 1 12 (popPair .de) s

/-- `PUSH DE` (R604). -/
def execPushDE (s : State) : Result := execute 1 16 (pushPair .de) s

/-- `POP HL` (R605). -/
def execPopHL (s : State) : Result := execute 1 12 (popPair .hl) s

/-- `PUSH HL` (R604). -/
def execPushHL (s : State) : Result := execute 1 16 (pushPair .hl) s

/-- `POP AF` (R606). -/
def execPopAF (s : State) : Result := execute 1 12 (popPair .af) s

/-- `PUSH AF` (R604). -/
def execPushAF (s : State) : Result := execute 1 16 (pushPair .af) s

/-- `LD SP,HL` (R603). -/
def execLdSPHL (s : State) : Result := execute 1 8 ldSPHL s

end Sys2Proof.Machine
end

