-- ==== Sys2Proof/Machine/Load8.lean ====
section
/-! DEFINITION. 8-bit loads and stores (41_load8.md): the rules of the family, then one meaning per instruction. No rule writes a flag
(R500). -/

namespace Sys2Proof.Machine

/-- `x[d] <- x[s]` (R501). -/
def ldRegReg (dst src : Reg8) (s : State) : Result := .next (s.setReg dst (s.regs.get src))

/-- `x[d] <- imm8` (R502). -/
def ldRegImm (dst : Reg8) (n : Byte) (s : State) : Result := .next (s.setReg dst n)

/-- `x[d] <- MemRead({H, L}, 1)` (R503). -/
def ldRegMem (dst : Reg8) (s : State) : Result := load s.regs.hl s fun v => .next (s.setReg dst v)

/-- `MemWrite({H, L}, 1, x[s])` (R504). -/
def ldMemReg (src : Reg8) (s : State) : Result := .next (s.memWrite s.regs.hl (s.regs.get src))

/-- `MemWrite({H, L}, 1, imm8)` (R505). -/
def ldMemImm (n : Byte) (s : State) : Result := .next (s.memWrite s.regs.hl n)

/-- `A <- MemRead(ea, 1)` (R506, R507, R510, R512, R514). -/
def ldAFrom (ea : Ea) (s : State) : Result := load (s.ea ea) s fun v => .next (s.setReg .a v)

/-- `MemWrite(ea, 1, A)` (R508, R509, R511, R513, R515). -/
def ldATo (ea : Ea) (s : State) : Result := .next (s.memWrite (s.ea ea) s.regs.a)

/-- `A <- MemRead(ea, 1); {H, L} <- trunc16(ea ± 1)` (R516, R518). -/
def ldAFromHL (dir : HLStep) (s : State) : Result :=
  load s.regs.hl s fun v => .next ((s.setReg .a v).setHL (dir.apply s.regs.hl))

/-- `MemWrite(ea, 1, A); {H, L} <- trunc16(ea ± 1)` (R517, R519). -/
def ldAToHL (dir : HLStep) (s : State) : Result :=
  .next ((s.memWrite s.regs.hl s.regs.a).setHL (dir.apply s.regs.hl))

/-! ## The meanings -/

/-- `LD (BC),A` (R508). -/
def execLdMemBCA (s : State) : Result := execute 1 8 (ldATo .bc) s

/-- `LD B,d8` (R502). -/
def execLdBD8 (n : Byte) (s : State) : Result := execute 2 8 (ldRegImm .b n) s

/-- `LD A,(BC)` (R506). -/
def execLdAMemBC (s : State) : Result := execute 1 8 (ldAFrom .bc) s

/-- `LD C,d8` (R502). -/
def execLdCD8 (n : Byte) (s : State) : Result := execute 2 8 (ldRegImm .c n) s

/-- `LD (DE),A` (R509). -/
def execLdMemDEA (s : State) : Result := execute 1 8 (ldATo .de) s

/-- `LD D,d8` (R502). -/
def execLdDD8 (n : Byte) (s : State) : Result := execute 2 8 (ldRegImm .d n) s

/-- `LD A,(DE)` (R507). -/
def execLdAMemDE (s : State) : Result := execute 1 8 (ldAFrom .de) s

/-- `LD E,d8` (R502). -/
def execLdED8 (n : Byte) (s : State) : Result := execute 2 8 (ldRegImm .e n) s

/-- `LD (HL+),A` (R519). -/
def execLdMemHLIncA (s : State) : Result := execute 1 8 (ldAToHL .inc) s

/-- `LD H,d8` (R502). -/
def execLdHD8 (n : Byte) (s : State) : Result := execute 2 8 (ldRegImm .h n) s

/-- `LD A,(HL+)` (R518). -/
def execLdAMemHLInc (s : State) : Result := execute 1 8 (ldAFromHL .inc) s

/-- `LD L,d8` (R502). -/
def execLdLD8 (n : Byte) (s : State) : Result := execute 2 8 (ldRegImm .l n) s

/-- `LD (HL-),A` (R517). -/
def execLdMemHLDecA (s : State) : Result := execute 1 8 (ldAToHL .dec) s

/-- `LD (HL),d8` (R505). -/
def execLdMemHLD8 (n : Byte) (s : State) : Result := execute 2 12 (ldMemImm n) s

/-- `LD A,(HL-)` (R516). -/
def execLdAMemHLDec (s : State) : Result := execute 1 8 (ldAFromHL .dec) s

/-- `LD A,d8` (R502). -/
def execLdAD8 (n : Byte) (s : State) : Result := execute 2 8 (ldRegImm .a n) s

/-- `LD B,B` (R501). -/
def execLdBB (s : State) : Result := execute 1 4 (ldRegReg .b .b) s

/-- `LD B,C` (R501). -/
def execLdBC (s : State) : Result := execute 1 4 (ldRegReg .b .c) s

/-- `LD B,D` (R501). -/
def execLdBD (s : State) : Result := execute 1 4 (ldRegReg .b .d) s

/-- `LD B,E` (R501). -/
def execLdBE (s : State) : Result := execute 1 4 (ldRegReg .b .e) s

/-- `LD B,H` (R501). -/
def execLdBH (s : State) : Result := execute 1 4 (ldRegReg .b .h) s

/-- `LD B,L` (R501). -/
def execLdBL (s : State) : Result := execute 1 4 (ldRegReg .b .l) s

/-- `LD B,(HL)` (R503). -/
def execLdBMemHL (s : State) : Result := execute 1 8 (ldRegMem .b) s

/-- `LD B,A` (R501). -/
def execLdBA (s : State) : Result := execute 1 4 (ldRegReg .b .a) s

/-- `LD C,B` (R501). -/
def execLdCB (s : State) : Result := execute 1 4 (ldRegReg .c .b) s

/-- `LD C,C` (R501). -/
def execLdCC (s : State) : Result := execute 1 4 (ldRegReg .c .c) s

/-- `LD C,D` (R501). -/
def execLdCD (s : State) : Result := execute 1 4 (ldRegReg .c .d) s

/-- `LD C,E` (R501). -/
def execLdCE (s : State) : Result := execute 1 4 (ldRegReg .c .e) s

/-- `LD C,H` (R501). -/
def execLdCH (s : State) : Result := execute 1 4 (ldRegReg .c .h) s

/-- `LD C,L` (R501). -/
def execLdCL (s : State) : Result := execute 1 4 (ldRegReg .c .l) s

/-- `LD C,(HL)` (R503). -/
def execLdCMemHL (s : State) : Result := execute 1 8 (ldRegMem .c) s

/-- `LD C,A` (R501). -/
def execLdCA (s : State) : Result := execute 1 4 (ldRegReg .c .a) s

/-- `LD D,B` (R501). -/
def execLdDB (s : State) : Result := execute 1 4 (ldRegReg .d .b) s

/-- `LD D,C` (R501). -/
def execLdDC (s : State) : Result := execute 1 4 (ldRegReg .d .c) s

/-- `LD D,D` (R501). -/
def execLdDD (s : State) : Result := execute 1 4 (ldRegReg .d .d) s

/-- `LD D,E` (R501). -/
def execLdDE (s : State) : Result := execute 1 4 (ldRegReg .d .e) s

/-- `LD D,H` (R501). -/
def execLdDH (s : State) : Result := execute 1 4 (ldRegReg .d .h) s

/-- `LD D,L` (R501). -/
def execLdDL (s : State) : Result := execute 1 4 (ldRegReg .d .l) s

/-- `LD D,(HL)` (R503). -/
def execLdDMemHL (s : State) : Result := execute 1 8 (ldRegMem .d) s

/-- `LD D,A` (R501). -/
def execLdDA (s : State) : Result := execute 1 4 (ldRegReg .d .a) s

/-- `LD E,B` (R501). -/
def execLdEB (s : State) : Result := execute 1 4 (ldRegReg .e .b) s

/-- `LD E,C` (R501). -/
def execLdEC (s : State) : Result := execute 1 4 (ldRegReg .e .c) s

/-- `LD E,D` (R501). -/
def execLdED (s : State) : Result := execute 1 4 (ldRegReg .e .d) s

/-- `LD E,E` (R501). -/
def execLdEE (s : State) : Result := execute 1 4 (ldRegReg .e .e) s

/-- `LD E,H` (R501). -/
def execLdEH (s : State) : Result := execute 1 4 (ldRegReg .e .h) s

/-- `LD E,L` (R501). -/
def execLdEL (s : State) : Result := execute 1 4 (ldRegReg .e .l) s

/-- `LD E,(HL)` (R503). -/
def execLdEMemHL (s : State) : Result := execute 1 8 (ldRegMem .e) s

/-- `LD E,A` (R501). -/
def execLdEA (s : State) : Result := execute 1 4 (ldRegReg .e .a) s

/-- `LD H,B` (R501). -/
def execLdHB (s : State) : Result := execute 1 4 (ldRegReg .h .b) s

/-- `LD H,C` (R501). -/
def execLdHC (s : State) : Result := execute 1 4 (ldRegReg .h .c) s

/-- `LD H,D` (R501). -/
def execLdHD (s : State) : Result := execute 1 4 (ldRegReg .h .d) s

/-- `LD H,E` (R501). -/
def execLdHE (s : State) : Result := execute 1 4 (ldRegReg .h .e) s

/-- `LD H,H` (R501). -/
def execLdHH (s : State) : Result := execute 1 4 (ldRegReg .h .h) s

/-- `LD H,L` (R501). -/
def execLdHL (s : State) : Result := execute 1 4 (ldRegReg .h .l) s

/-- `LD H,(HL)` (R503). -/
def execLdHMemHL (s : State) : Result := execute 1 8 (ldRegMem .h) s

/-- `LD H,A` (R501). -/
def execLdHA (s : State) : Result := execute 1 4 (ldRegReg .h .a) s

/-- `LD L,B` (R501). -/
def execLdLB (s : State) : Result := execute 1 4 (ldRegReg .l .b) s

/-- `LD L,C` (R501). -/
def execLdLC (s : State) : Result := execute 1 4 (ldRegReg .l .c) s

/-- `LD L,D` (R501). -/
def execLdLD (s : State) : Result := execute 1 4 (ldRegReg .l .d) s

/-- `LD L,E` (R501). -/
def execLdLE (s : State) : Result := execute 1 4 (ldRegReg .l .e) s

/-- `LD L,H` (R501). -/
def execLdLH (s : State) : Result := execute 1 4 (ldRegReg .l .h) s

/-- `LD L,L` (R501). -/
def execLdLL (s : State) : Result := execute 1 4 (ldRegReg .l .l) s

/-- `LD L,(HL)` (R503). -/
def execLdLMemHL (s : State) : Result := execute 1 8 (ldRegMem .l) s

/-- `LD L,A` (R501). -/
def execLdLA (s : State) : Result := execute 1 4 (ldRegReg .l .a) s

/-- `LD (HL),B` (R504). -/
def execLdMemHLB (s : State) : Result := execute 1 8 (ldMemReg .b) s

/-- `LD (HL),C` (R504). -/
def execLdMemHLC (s : State) : Result := execute 1 8 (ldMemReg .c) s

/-- `LD (HL),D` (R504). -/
def execLdMemHLD (s : State) : Result := execute 1 8 (ldMemReg .d) s

/-- `LD (HL),E` (R504). -/
def execLdMemHLE (s : State) : Result := execute 1 8 (ldMemReg .e) s

/-- `LD (HL),H` (R504). -/
def execLdMemHLH (s : State) : Result := execute 1 8 (ldMemReg .h) s

/-- `LD (HL),L` (R504). -/
def execLdMemHLL (s : State) : Result := execute 1 8 (ldMemReg .l) s

/-- `LD (HL),A` (R504). -/
def execLdMemHLA (s : State) : Result := execute 1 8 (ldMemReg .a) s

/-- `LD A,B` (R501). -/
def execLdAB (s : State) : Result := execute 1 4 (ldRegReg .a .b) s

/-- `LD A,C` (R501). -/
def execLdAC (s : State) : Result := execute 1 4 (ldRegReg .a .c) s

/-- `LD A,D` (R501). -/
def execLdAD (s : State) : Result := execute 1 4 (ldRegReg .a .d) s

/-- `LD A,E` (R501). -/
def execLdAE (s : State) : Result := execute 1 4 (ldRegReg .a .e) s

/-- `LD A,H` (R501). -/
def execLdAH (s : State) : Result := execute 1 4 (ldRegReg .a .h) s

/-- `LD A,L` (R501). -/
def execLdAL (s : State) : Result := execute 1 4 (ldRegReg .a .l) s

/-- `LD A,(HL)` (R503). -/
def execLdAMemHL (s : State) : Result := execute 1 8 (ldRegMem .a) s

/-- `LD A,A` (R501). -/
def execLdAA (s : State) : Result := execute 1 4 (ldRegReg .a .a) s

/-- `LDH (a8),A` (R515). -/
def execLdhMemA8A (n : Byte) (s : State) : Result := execute 2 12 (ldATo (.high n)) s

/-- `LD (C),A` (R513). -/
def execLdMemCA (s : State) : Result := execute 1 8 (ldATo .highC) s

/-- `LD (a16),A` (R511). -/
def execLdMemA16A (nn : Word) (s : State) : Result := execute 3 16 (ldATo (.abs nn)) s

/-- `LDH A,(a8)` (R514). -/
def execLdhAMemA8 (n : Byte) (s : State) : Result := execute 2 12 (ldAFrom (.high n)) s

/-- `LD A,(C)` (R512). -/
def execLdAMemC (s : State) : Result := execute 1 8 (ldAFrom .highC) s

/-- `LD A,(a16)` (R510). -/
def execLdAMemA16 (nn : Word) (s : State) : Result := execute 3 16 (ldAFrom (.abs nn)) s

end Sys2Proof.Machine
end

