-- ==== Sys2Proof/Machine/RotateShift.lean ====
section
/-! DEFINITION. Rotates, shifts and SWAP (45_rotate_shift.md). -/

namespace Sys2Proof.Machine

/-- The one-byte accumulator rotates (R901 to R904). -/
def rotateA (op : RotOp) (s : State) : Result := modify (.reg .a) (rotA8 op) s

/-- The prefix-space rotates, shifts and SWAP (R905 to R920). -/
def rotate (op : RotOp) (t : Target) (s : State) : Result := modify t (rot8 op) s

/-! ## The meanings -/

/-- `RLCA` (R901). -/
def execRlca (s : State) : Result := execute 1 4 (rotateA .rlc) s

/-- `RRCA` (R902). -/
def execRrca (s : State) : Result := execute 1 4 (rotateA .rrc) s

/-- `RLA` (R903). -/
def execRla (s : State) : Result := execute 1 4 (rotateA .rl) s

/-- `RRA` (R904). -/
def execRra (s : State) : Result := execute 1 4 (rotateA .rr) s

/-- `RLC B` (R905). -/
def execRlcB (s : State) : Result := execute 2 8 (rotate .rlc (.reg .b)) s

/-- `RLC C` (R905). -/
def execRlcC (s : State) : Result := execute 2 8 (rotate .rlc (.reg .c)) s

/-- `RLC D` (R905). -/
def execRlcD (s : State) : Result := execute 2 8 (rotate .rlc (.reg .d)) s

/-- `RLC E` (R905). -/
def execRlcE (s : State) : Result := execute 2 8 (rotate .rlc (.reg .e)) s

/-- `RLC H` (R905). -/
def execRlcH (s : State) : Result := execute 2 8 (rotate .rlc (.reg .h)) s

/-- `RLC L` (R905). -/
def execRlcL (s : State) : Result := execute 2 8 (rotate .rlc (.reg .l)) s

/-- `RLC (HL)` (R906). -/
def execRlcMemHL (s : State) : Result := execute 2 16 (rotate .rlc .memHL) s

/-- `RLC A` (R905). -/
def execRlcA (s : State) : Result := execute 2 8 (rotate .rlc (.reg .a)) s

/-- `RRC B` (R907). -/
def execRrcB (s : State) : Result := execute 2 8 (rotate .rrc (.reg .b)) s

/-- `RRC C` (R907). -/
def execRrcC (s : State) : Result := execute 2 8 (rotate .rrc (.reg .c)) s

/-- `RRC D` (R907). -/
def execRrcD (s : State) : Result := execute 2 8 (rotate .rrc (.reg .d)) s

/-- `RRC E` (R907). -/
def execRrcE (s : State) : Result := execute 2 8 (rotate .rrc (.reg .e)) s

/-- `RRC H` (R907). -/
def execRrcH (s : State) : Result := execute 2 8 (rotate .rrc (.reg .h)) s

/-- `RRC L` (R907). -/
def execRrcL (s : State) : Result := execute 2 8 (rotate .rrc (.reg .l)) s

/-- `RRC (HL)` (R908). -/
def execRrcMemHL (s : State) : Result := execute 2 16 (rotate .rrc .memHL) s

/-- `RRC A` (R907). -/
def execRrcA (s : State) : Result := execute 2 8 (rotate .rrc (.reg .a)) s

/-- `RL B` (R909). -/
def execRlB (s : State) : Result := execute 2 8 (rotate .rl (.reg .b)) s

/-- `RL C` (R909). -/
def execRlC (s : State) : Result := execute 2 8 (rotate .rl (.reg .c)) s

/-- `RL D` (R909). -/
def execRlD (s : State) : Result := execute 2 8 (rotate .rl (.reg .d)) s

/-- `RL E` (R909). -/
def execRlE (s : State) : Result := execute 2 8 (rotate .rl (.reg .e)) s

/-- `RL H` (R909). -/
def execRlH (s : State) : Result := execute 2 8 (rotate .rl (.reg .h)) s

/-- `RL L` (R909). -/
def execRlL (s : State) : Result := execute 2 8 (rotate .rl (.reg .l)) s

/-- `RL (HL)` (R910). -/
def execRlMemHL (s : State) : Result := execute 2 16 (rotate .rl .memHL) s

/-- `RL A` (R909). -/
def execRlA (s : State) : Result := execute 2 8 (rotate .rl (.reg .a)) s

/-- `RR B` (R911). -/
def execRrB (s : State) : Result := execute 2 8 (rotate .rr (.reg .b)) s

/-- `RR C` (R911). -/
def execRrC (s : State) : Result := execute 2 8 (rotate .rr (.reg .c)) s

/-- `RR D` (R911). -/
def execRrD (s : State) : Result := execute 2 8 (rotate .rr (.reg .d)) s

/-- `RR E` (R911). -/
def execRrE (s : State) : Result := execute 2 8 (rotate .rr (.reg .e)) s

/-- `RR H` (R911). -/
def execRrH (s : State) : Result := execute 2 8 (rotate .rr (.reg .h)) s

/-- `RR L` (R911). -/
def execRrL (s : State) : Result := execute 2 8 (rotate .rr (.reg .l)) s

/-- `RR (HL)` (R912). -/
def execRrMemHL (s : State) : Result := execute 2 16 (rotate .rr .memHL) s

/-- `RR A` (R911). -/
def execRrA (s : State) : Result := execute 2 8 (rotate .rr (.reg .a)) s

/-- `SLA B` (R913). -/
def execSlaB (s : State) : Result := execute 2 8 (rotate .sla (.reg .b)) s

/-- `SLA C` (R913). -/
def execSlaC (s : State) : Result := execute 2 8 (rotate .sla (.reg .c)) s

/-- `SLA D` (R913). -/
def execSlaD (s : State) : Result := execute 2 8 (rotate .sla (.reg .d)) s

/-- `SLA E` (R913). -/
def execSlaE (s : State) : Result := execute 2 8 (rotate .sla (.reg .e)) s

/-- `SLA H` (R913). -/
def execSlaH (s : State) : Result := execute 2 8 (rotate .sla (.reg .h)) s

/-- `SLA L` (R913). -/
def execSlaL (s : State) : Result := execute 2 8 (rotate .sla (.reg .l)) s

/-- `SLA (HL)` (R914). -/
def execSlaMemHL (s : State) : Result := execute 2 16 (rotate .sla .memHL) s

/-- `SLA A` (R913). -/
def execSlaA (s : State) : Result := execute 2 8 (rotate .sla (.reg .a)) s

/-- `SRA B` (R915). -/
def execSraB (s : State) : Result := execute 2 8 (rotate .sra (.reg .b)) s

/-- `SRA C` (R915). -/
def execSraC (s : State) : Result := execute 2 8 (rotate .sra (.reg .c)) s

/-- `SRA D` (R915). -/
def execSraD (s : State) : Result := execute 2 8 (rotate .sra (.reg .d)) s

/-- `SRA E` (R915). -/
def execSraE (s : State) : Result := execute 2 8 (rotate .sra (.reg .e)) s

/-- `SRA H` (R915). -/
def execSraH (s : State) : Result := execute 2 8 (rotate .sra (.reg .h)) s

/-- `SRA L` (R915). -/
def execSraL (s : State) : Result := execute 2 8 (rotate .sra (.reg .l)) s

/-- `SRA (HL)` (R916). -/
def execSraMemHL (s : State) : Result := execute 2 16 (rotate .sra .memHL) s

/-- `SRA A` (R915). -/
def execSraA (s : State) : Result := execute 2 8 (rotate .sra (.reg .a)) s

/-- `SWAP B` (R917). -/
def execSwapB (s : State) : Result := execute 2 8 (rotate .swap (.reg .b)) s

/-- `SWAP C` (R917). -/
def execSwapC (s : State) : Result := execute 2 8 (rotate .swap (.reg .c)) s

/-- `SWAP D` (R917). -/
def execSwapD (s : State) : Result := execute 2 8 (rotate .swap (.reg .d)) s

/-- `SWAP E` (R917). -/
def execSwapE (s : State) : Result := execute 2 8 (rotate .swap (.reg .e)) s

/-- `SWAP H` (R917). -/
def execSwapH (s : State) : Result := execute 2 8 (rotate .swap (.reg .h)) s

/-- `SWAP L` (R917). -/
def execSwapL (s : State) : Result := execute 2 8 (rotate .swap (.reg .l)) s

/-- `SWAP (HL)` (R918). -/
def execSwapMemHL (s : State) : Result := execute 2 16 (rotate .swap .memHL) s

/-- `SWAP A` (R917). -/
def execSwapA (s : State) : Result := execute 2 8 (rotate .swap (.reg .a)) s

/-- `SRL B` (R919). -/
def execSrlB (s : State) : Result := execute 2 8 (rotate .srl (.reg .b)) s

/-- `SRL C` (R919). -/
def execSrlC (s : State) : Result := execute 2 8 (rotate .srl (.reg .c)) s

/-- `SRL D` (R919). -/
def execSrlD (s : State) : Result := execute 2 8 (rotate .srl (.reg .d)) s

/-- `SRL E` (R919). -/
def execSrlE (s : State) : Result := execute 2 8 (rotate .srl (.reg .e)) s

/-- `SRL H` (R919). -/
def execSrlH (s : State) : Result := execute 2 8 (rotate .srl (.reg .h)) s

/-- `SRL L` (R919). -/
def execSrlL (s : State) : Result := execute 2 8 (rotate .srl (.reg .l)) s

/-- `SRL (HL)` (R920). -/
def execSrlMemHL (s : State) : Result := execute 2 16 (rotate .srl .memHL) s

/-- `SRL A` (R919). -/
def execSrlA (s : State) : Result := execute 2 8 (rotate .srl (.reg .a)) s

end Sys2Proof.Machine
end

