-- ==== Sys2Proof/Machine/Undefined.lean ====
section
/-! DEFINITION. The eleven bytes with no table entry (30_encoding.md R307). Decoding one raises UNDEFINED_OPCODE and nothing else changes
(40_execution_loop.md R404). -/

namespace Sys2Proof.Machine

/-- `raise Fault(UNDEFINED_OPCODE, {opcode, PC0})` (R404). -/
def undefinedOpcode (b : Byte) (s : State) : Result := raise (.undefinedOpcode b s.pc) s

/-! ## The meanings -/

/-- `(undefined)` (R307). -/
def execUndefD3 (s : State) : Result := undefinedOpcode 0xD3 s

/-- `(undefined)` (R307). -/
def execUndefDB (s : State) : Result := undefinedOpcode 0xDB s

/-- `(undefined)` (R307). -/
def execUndefDD (s : State) : Result := undefinedOpcode 0xDD s

/-- `(undefined)` (R307). -/
def execUndefE3 (s : State) : Result := undefinedOpcode 0xE3 s

/-- `(undefined)` (R307). -/
def execUndefE4 (s : State) : Result := undefinedOpcode 0xE4 s

/-- `(undefined)` (R307). -/
def execUndefEB (s : State) : Result := undefinedOpcode 0xEB s

/-- `(undefined)` (R307). -/
def execUndefEC (s : State) : Result := undefinedOpcode 0xEC s

/-- `(undefined)` (R307). -/
def execUndefED (s : State) : Result := undefinedOpcode 0xED s

/-- `(undefined)` (R307). -/
def execUndefF4 (s : State) : Result := undefinedOpcode 0xF4 s

/-- `(undefined)` (R307). -/
def execUndefFC (s : State) : Result := undefinedOpcode 0xFC s

/-- `(undefined)` (R307). -/
def execUndefFD (s : State) : Result := undefinedOpcode 0xFD s

end Sys2Proof.Machine
end

