-- ==== Sys2Proof/Machine/Ppu.lean ====
section
/-! DEFINITION. The PPU scanline-phase state machine (60_exceptions.md R1340 to R1347) and the request operation it shares with the
interrupt controller (R1311). Every access is a raw bus access (20_memory.md R206). -/

namespace Sys2Proof.Machine

/-- `IcFire(k)` (R1311): the request bit is or-ed into IF. -/
def icFire (k : Fin 5) (s : State) : State :=
  s.busPoke Params.addrIF (s.busRead Params.addrIF ||| (1 <<< k.val))

/-- The line of a cumulative cycle count, clamped to the last one (R1341). -/
def lineOf (cum : Nat) : Nat := min (cum / Params.lineCycles) (Params.linesTotal - 1)

/-- `PhaseOf(ln, pos)` (R1343): 0 H-blank, 1 V-blank, 2 OAM search, 3 pixel transfer. -/
def phaseOf (ln pos : Nat) : BitVec 2 :=
  if Params.linesVisible ≤ ln then 1
  else if pos < Params.oamEnd then 2
  else if pos < Params.xferEnd then 3
  else 0

/-- Line start (R1342): LY advances modulo 154, the line is unrendered, and LY = LYC requests LCDC. -/
def lineStart (ln : Nat) (s : State) : State :=
  let ly : Byte := BitVec.ofNat 8 (((s.busRead Params.addrLY).toNat + 1) % Params.linesTotal)
  let s := { s with ppu := { s.ppu with line := ln, rendered := false } }.busPoke Params.addrLY ly
  if s.busRead Params.addrLY = s.busRead Params.addrLYC then icFire 1 s else s

/-- The phase into STAT bits 1 to 0, bits 7 to 2 kept (R1344). -/
def setStatPhase (mode : BitVec 2) (s : State) : State :=
  s.busPoke Params.addrSTAT ((s.busRead Params.addrSTAT &&& 0xFC) ||| mode.setWidth 8)

/-- Bit `b` of a byte as a number. -/
def bitOf (v : Byte) (b : Nat) : Nat := (v.getLsbD b).toNat

/-- The shade of column `x` of line `ly` (R1346): window or background, tile map, tile data, two bit planes, BGP. -/
def pixel (s : State) (ly x : Nat) : BitVec 2 :=
  let lcdc := s.busRead Params.addrLCDC
  let wy := (s.busRead Params.addrWY).toNat
  let wx : Int := ((s.busRead Params.addrWX).toNat : Int) - 7
  let bgMap := if lcdc.getLsbD 3 then 0x9C00 else 0x9800
  let winMap := if lcdc.getLsbD 6 then 0x9C00 else 0x9800
  let (px, py, map) : Nat × Nat × Nat :=
    if lcdc.getLsbD 5 ∧ wy ≤ ly ∧ wx ≤ (x : Int) then (((x : Int) - wx).toNat, ly - wy, winMap)
    else
      ((x + (s.busRead Params.addrSCX).toNat) % 256, (ly + (s.busRead Params.addrSCY).toNat) % 256, bgMap)
  let idx := s.busRead (map + py / 8 * 32 + px / 8)
  let tile : Nat :=
    if lcdc.getLsbD 4 then 0x8000 + idx.toNat * 16 else (0x9000 + s8 idx * 16).toNat
  let lo := s.busRead (tile + py % 8 * 2)
  let hi := s.busRead (tile + py % 8 * 2 + 1)
  let b := 7 - px % 8
  let ci := bitOf hi b * 2 + bitOf lo b
  (s.busRead Params.addrBGP).extractLsb' (2 * ci) 2

/-- The first `n` columns of row `ly` of the active framebuffer, rendered (R1346). -/
def renderColumns (s : State) (ly n : Nat) (fb : Store 2) : Store 2 :=
  match n with
  | 0 => fb
  | k + 1 => Store.write Config.shadeUnlisted (renderColumns s ly k fb) (ly * Params.fbW + k) (pixel s ly k)

/-- `Render(LY)` (R1346): row LY, columns 0 to 159, of the active framebuffer. -/
def render (s : State) : State :=
  let ly := (s.busRead Params.addrLY).toNat
  { s with ppu := { s.ppu with fbActive := renderColumns s ly Params.screenW s.ppu.fbActive } }

/-- H-blank rendering, once a line (R1345). -/
def hblank (mode : BitVec 2) (s : State) : State :=
  if mode = 0 ∧ s.ppu.rendered = false then
    let s := render s
    { s with ppu := { s.ppu with rendered := true } }
  else s

/-- The V-blank edge (R1347): one request and one swap of the buffers a frame. -/
def vblankEdge (cum : Nat) (s : State) : State :=
  if Params.vblankStart ≤ cum then
    if s.ppu.vblankFired then s
    else
      let s := icFire 0 s
      { s with
        ppu := { s.ppu with
          vblankFired := true, fbActive := s.ppu.fbPresented, fbPresented := s.ppu.fbActive } }
  else { s with ppu := { s.ppu with vblankFired := false } }

/-- `PpuStep(cum)` (R1340). -/
def ppuStep (cum : Nat) (s : State) : State :=
  let ln := lineOf cum
  let pos := cum - ln * Params.lineCycles
  let s := if ln = s.ppu.line then s else lineStart ln s
  let mode := phaseOf ln pos
  vblankEdge cum (hblank mode (setStatPhase mode s))

end Sys2Proof.Machine
end

