-- ==== Sys2Proof/Machine/Interrupts.lean ====
section
/-! DEFINITION. The interrupt controller (60_exceptions.md R1310 to R1315). Its request operation `icFire` stands in Ppu.lean, and
the delivery itself, `takeInterrupt`, in Ops.lean. -/

namespace Sys2Proof.Machine

/-- `IcHasPending()` (R1311): all 8 bits. -/
def icHasPending (s : State) : Bool := (s.busRead Params.addrIF &&& s.busRead Params.addrIE) != 0

/-- The first set and enabled bit of 0 to 4, V-Blank first (R1312). -/
def icSelect (s : State) : Option (Fin 5) :=
  [0, 1, 2, 3, 4].find? fun k : Fin 5 =>
    (s.busRead Params.addrIF).getLsbD k.val && (s.busRead Params.addrIE).getLsbD k.val

/-- `IcDispatch()` (R1312), called only if a request is pending (R400). -/
def icDispatch (s : State) : Result :=
  if icHasPending s then
    match icSelect s with
    | some k => takeInterrupt (Params.vector k) s
    | none => .next s
  else .next s

/-- `IcClearAll()` (R1313). -/
def icClearAll (s : State) : State := s.busPoke Params.addrIF 0

/-- The host's external requests of this step (R1315): the first of `extReq`, taken from it; every set bit fires. -/
def externalRequests (s : State) : State :=
  match s.extReq with
  | [] => s
  | req :: rest =>
    [0, 1, 2, 3, 4].foldl (fun s (k : Fin 5) => if req.getLsbD k.val then icFire k s else s) { s with extReq := rest }

end Sys2Proof.Machine
end

