-- ==== Sys2Proof/Machine/SystemStep.lean ====
section
/-! DEFINITION. The CPU step and the system step (40_execution_loop.md R400 to R410). -/

namespace Sys2Proof.Machine

open Sys2Proof

/-- `CpuStep()` of a running CPU (R401): fetch, lookup, the check of PCnext before any operand is read (R406), HALT before the
handler test, the unimplemented path for an opcode taken out of `P_HANDLER_SET` (R407), operands, execute. A byte with no table
entry faults in the fetch exactly as its `exec` arm does (R404). -/
def cpuRun (s : State) : Result :=
  match fetchEntry s s.pc with
  | .error f => raise f s
  | .ok o =>
    if 0xFFFF < s.pc.toNat + o.entry.length then raise (.pcRange (s.pc.toNat + o.entry.length)) s
    else if o.opcode ≠ 0x76 ∧ o.opcode ∈ s.cart.unhandled then unimplemented o.entry.length o.entry.cycles s
    else
      match fetchOperand s s.pc o.entry.operand with
      | .error f => raise f s
      | .ok i => exec i s

/-- `CpuStep()` (R401, R402): a halted CPU returns the idle cost and touches nothing. -/
def cpuStep (s : State) : Result := if s.halted then .next (s.returnCycles Params.idleCycles) else cpuRun s

/-- `frameCycles <- frameCycles + c` (R400). -/
def accumulate (s : State) : State := { s with frameCycles := s.frameCycles + s.stepCycles }

/-- `FrameLoopCheck()` (R410): the overshoot is kept. -/
def frameLoopCheck (s : State) : State :=
  if Params.frameCycles ≤ s.frameCycles then { s with frameCycles := s.frameCycles - Params.frameCycles } else s

/-- The rest of a system step after the CPU step (R400): accumulate, PPU step, external requests. -/
def devices (s : State) : State :=
  let s := accumulate s
  externalRequests (ppuStep s.frameCycles s)

/-- The system step after the CPU step (R400): devices, dispatch, clear all, the frame loop. -/
def endOfStep (s : State) : Result :=
  andThen (icDispatch (devices s)) fun s => .next (frameLoopCheck (icClearAll s))

/-- `SystemStep(extReq)` (R400). A faulted machine has no step (R1301): it stays stopped on its record. -/
def systemStep (s : State) : Result :=
  match s.fault with
  | some f => raise f s
  | none => andThen (cpuStep s) endOfStep

end Sys2Proof.Machine
end

