-- ==== Sys2Proof/Machine/Step.lean ====
section
/-! DEFINITION. One step of the machine, and placing an instruction where the next step fetches it. -/

namespace Sys2Proof.Machine

/-- One system step (40_execution_loop.md R400), with the host input of the state's `extReq` queue. -/
def step (s : State) : Host.Outcome State Fault Refusal := systemStep s

/-- `s` with the instruction of a table word stored where the next step fetches (log 11): its bytes at PC, through the window PC
lies in. The fetch needs no more than a running, unfaulted machine whose handler set holds the instruction and a PC that leaves
room for three bytes; these are set only where they do not hold. -/
def State.withFetchWord (s : State) (nbits w : Nat) : State :=
  let bytes := Sys2Proof.tableInstrBytes nbits w
  let pc : Word := if 0xFFFF < s.pc.toNat + 3 then 0x0100 else s.pc
  ({ s with pc := pc, fault := none, halted := false }.withHandlerFor bytes).placeBytes pc bytes

end Sys2Proof.Machine
end

