-- ==== Sys2Proof/Machine/Form.lean ====
section
/-! DEFINITION. The form of an instruction: the rule of the spec it follows and the operand codes of its row (R303), so that one
statement can speak of every row of one rule. `exec` does not use it: each arm has its own meaning. -/

namespace Sys2Proof.Machine

open Sys2Proof

/-- The rule families of 41_load8.md to 48_cpu_control.md, with their operands. -/
inductive Form where
  /-- R501 -/
  | ldRegReg (dst src : Reg8)
  /-- R502 -/
  | ldRegImm (dst : Reg8) (n : Byte)
  /-- R503 -/
  | ldRegMem (dst : Reg8)
  /-- R504 -/
  | ldMemReg (src : Reg8)
  /-- R505 -/
  | ldMemImm (n : Byte)
  /-- R506, R507, R510, R512, R514 -/
  | ldAFrom (ea : Ea)
  /-- R508, R509, R511, R513, R515 -/
  | ldATo (ea : Ea)
  /-- R516, R518 -/
  | ldAFromHL (dir : HLStep)
  /-- R517, R519 -/
  | ldAToHL (dir : HLStep)
  /-- R601 -/
  | ldPairImm (p : Pair) (nn : Word)
  /-- R602 -/
  | ldMemSP (nn : Word)
  /-- R603 -/
  | ldSPHL
  /-- R604 -/
  | push (q : StackPair)
  /-- R605, R606 -/
  | pop (q : StackPair)
  /-- R701 to R724 -/
  | alu (op : AluOp) (src : Source)
  /-- R725, R726 -/
  | inc8 (t : Target)
  /-- R727, R728 -/
  | dec8 (t : Target)
  /-- R729 -/
  | daa
  /-- R730 -/
  | cpl
  /-- R731 -/
  | scf
  /-- R732 -/
  | ccf
  /-- R801 -/
  | addHL (p : Pair)
  /-- R802 -/
  | incPair (p : Pair)
  /-- R803 -/
  | decPair (p : Pair)
  /-- R804 -/
  | addSP (e : Byte)
  /-- R805 -/
  | ldHLSP (e : Byte)
  /-- R901 to R904 -/
  | rotA (op : RotOp)
  /-- R905 to R920 -/
  | rot (op : RotOp) (t : Target)
  /-- R1001, R1002 -/
  | bit (b : Fin 8) (t : Target)
  /-- R1003, R1004 -/
  | res (b : Fin 8) (t : Target)
  /-- R1005, R1006 -/
  | set (b : Fin 8) (t : Target)
  /-- R1101 -/
  | jp (nn : Word)
  /-- R1102 -/
  | jpCond (cc : Cond) (nn : Word)
  /-- R1103 -/
  | jpHL
  /-- R1104 -/
  | jr (e : Byte)
  /-- R1105 -/
  | jrCond (cc : Cond) (e : Byte)
  /-- R1106 -/
  | call (nn : Word)
  /-- R1107 -/
  | callCond (cc : Cond) (nn : Word)
  /-- R1108 -/
  | ret
  /-- R1109 -/
  | retCond (cc : Cond)
  /-- R1110 -/
  | reti
  /-- R1111 -/
  | rst (t : Fin 8)
  /-- R1201 -/
  | nop
  /-- R1202 -/
  | halt
  /-- R1203 -/
  | stop
  /-- R1204 -/
  | di
  /-- R1205 -/
  | ei
  /-- R307: a byte with no table entry -/
  | undefined (b : Byte)
deriving DecidableEq, Repr

/-- The form of each row of spec/opcode_table.json, from its `rule` and its operand codes. -/
def formOf : Instr → Form
  | .nop => .nop
  | .ldBCD16 nn => .ldPairImm .bc nn
  | .ldMemBCA => .ldATo .bc
  | .incBC => .incPair .bc
  | .incB => .inc8 (.reg .b)
  | .decB => .dec8 (.reg .b)
  | .ldBD8 n => .ldRegImm .b n
  | .rlca => .rotA .rlc
  | .ldMemA16SP nn => .ldMemSP nn
  | .addHLBC => .addHL .bc
  | .ldAMemBC => .ldAFrom .bc
  | .decBC => .decPair .bc
  | .incC => .inc8 (.reg .c)
  | .decC => .dec8 (.reg .c)
  | .ldCD8 n => .ldRegImm .c n
  | .rrca => .rotA .rrc
  | .stop => .stop
  | .ldDED16 nn => .ldPairImm .de nn
  | .ldMemDEA => .ldATo .de
  | .incDE => .incPair .de
  | .incD => .inc8 (.reg .d)
  | .decD => .dec8 (.reg .d)
  | .ldDD8 n => .ldRegImm .d n
  | .rla => .rotA .rl
  | .jrR8 e => .jr e
  | .addHLDE => .addHL .de
  | .ldAMemDE => .ldAFrom .de
  | .decDE => .decPair .de
  | .incE => .inc8 (.reg .e)
  | .decE => .dec8 (.reg .e)
  | .ldED8 n => .ldRegImm .e n
  | .rra => .rotA .rr
  | .jrNzR8 e => .jrCond .nz e
  | .ldHLD16 nn => .ldPairImm .hl nn
  | .ldMemHLIncA => .ldAToHL .inc
  | .incHL => .incPair .hl
  | .incH => .inc8 (.reg .h)
  | .decH => .dec8 (.reg .h)
  | .ldHD8 n => .ldRegImm .h n
  | .daa => .daa
  | .jrZR8 e => .jrCond .z e
  | .addHLHL => .addHL .hl
  | .ldAMemHLInc => .ldAFromHL .inc
  | .decHL => .decPair .hl
  | .incL => .inc8 (.reg .l)
  | .decL => .dec8 (.reg .l)
  | .ldLD8 n => .ldRegImm .l n
  | .cpl => .cpl
  | .jrNcR8 e => .jrCond .nc e
  | .ldSPD16 nn => .ldPairImm .sp nn
  | .ldMemHLDecA => .ldAToHL .dec
  | .incSP => .incPair .sp
  | .incMemHL => .inc8 .memHL
  | .decMemHL => .dec8 .memHL
  | .ldMemHLD8 n => .ldMemImm n
  | .scf => .scf
  | .jrCR8 e => .jrCond .c e
  | .addHLSP => .addHL .sp
  | .ldAMemHLDec => .ldAFromHL .dec
  | .decSP => .decPair .sp
  | .incA => .inc8 (.reg .a)
  | .decA => .dec8 (.reg .a)
  | .ldAD8 n => .ldRegImm .a n
  | .ccf => .ccf
  | .ldBB => .ldRegReg .b .b
  | .ldBC => .ldRegReg .b .c
  | .ldBD => .ldRegReg .b .d
  | .ldBE => .ldRegReg .b .e
  | .ldBH => .ldRegReg .b .h
  | .ldBL => .ldRegReg .b .l
  | .ldBMemHL => .ldRegMem .b
  | .ldBA => .ldRegReg .b .a
  | .ldCB => .ldRegReg .c .b
  | .ldCC => .ldRegReg .c .c
  | .ldCD => .ldRegReg .c .d
  | .ldCE => .ldRegReg .c .e
  | .ldCH => .ldRegReg .c .h
  | .ldCL => .ldRegReg .c .l
  | .ldCMemHL => .ldRegMem .c
  | .ldCA => .ldRegReg .c .a
  | .ldDB => .ldRegReg .d .b
  | .ldDC => .ldRegReg .d .c
  | .ldDD => .ldRegReg .d .d
  | .ldDE => .ldRegReg .d .e
  | .ldDH => .ldRegReg .d .h
  | .ldDL => .ldRegReg .d .l
  | .ldDMemHL => .ldRegMem .d
  | .ldDA => .ldRegReg .d .a
  | .ldEB => .ldRegReg .e .b
  | .ldEC => .ldRegReg .e .c
  | .ldED => .ldRegReg .e .d
  | .ldEE => .ldRegReg .e .e
  | .ldEH => .ldRegReg .e .h
  | .ldEL => .ldRegReg .e .l
  | .ldEMemHL => .ldRegMem .e
  | .ldEA => .ldRegReg .e .a
  | .ldHB => .ldRegReg .h .b
  | .ldHC => .ldRegReg .h .c
  | .ldHD => .ldRegReg .h .d
  | .ldHE => .ldRegReg .h .e
  | .ldHH => .ldRegReg .h .h
  | .ldHL => .ldRegReg .h .l
  | .ldHMemHL => .ldRegMem .h
  | .ldHA => .ldRegReg .h .a
  | .ldLB => .ldRegReg .l .b
  | .ldLC => .ldRegReg .l .c
  | .ldLD => .ldRegReg .l .d
  | .ldLE => .ldRegReg .l .e
  | .ldLH => .ldRegReg .l .h
  | .ldLL => .ldRegReg .l .l
  | .ldLMemHL => .ldRegMem .l
  | .ldLA => .ldRegReg .l .a
  | .ldMemHLB => .ldMemReg .b
  | .ldMemHLC => .ldMemReg .c
  | .ldMemHLD => .ldMemReg .d
  | .ldMemHLE => .ldMemReg .e
  | .ldMemHLH => .ldMemReg .h
  | .ldMemHLL => .ldMemReg .l
  | .halt => .halt
  | .ldMemHLA => .ldMemReg .a
  | .ldAB => .ldRegReg .a .b
  | .ldAC => .ldRegReg .a .c
  | .ldAD => .ldRegReg .a .d
  | .ldAE => .ldRegReg .a .e
  | .ldAH => .ldRegReg .a .h
  | .ldAL => .ldRegReg .a .l
  | .ldAMemHL => .ldRegMem .a
  | .ldAA => .ldRegReg .a .a
  | .addAB => .alu .add (.reg .b)
  | .addAC => .alu .add (.reg .c)
  | .addAD => .alu .add (.reg .d)
  | .addAE => .alu .add (.reg .e)
  | .addAH => .alu .add (.reg .h)
  | .addAL => .alu .add (.reg .l)
  | .addAMemHL => .alu .add .memHL
  | .addAA => .alu .add (.reg .a)
  | .adcAB => .alu .adc (.reg .b)
  | .adcAC => .alu .adc (.reg .c)
  | .adcAD => .alu .adc (.reg .d)
  | .adcAE => .alu .adc (.reg .e)
  | .adcAH => .alu .adc (.reg .h)
  | .adcAL => .alu .adc (.reg .l)
  | .adcAMemHL => .alu .adc .memHL
  | .adcAA => .alu .adc (.reg .a)
  | .subB => .alu .sub (.reg .b)
  | .subC => .alu .sub (.reg .c)
  | .subD => .alu .sub (.reg .d)
  | .subE => .alu .sub (.reg .e)
  | .subH => .alu .sub (.reg .h)
  | .subL => .alu .sub (.reg .l)
  | .subMemHL => .alu .sub .memHL
  | .subA => .alu .sub (.reg .a)
  | .sbcAB => .alu .sbc (.reg .b)
  | .sbcAC => .alu .sbc (.reg .c)
  | .sbcAD => .alu .sbc (.reg .d)
  | .sbcAE => .alu .sbc (.reg .e)
  | .sbcAH => .alu .sbc (.reg .h)
  | .sbcAL => .alu .sbc (.reg .l)
  | .sbcAMemHL => .alu .sbc .memHL
  | .sbcAA => .alu .sbc (.reg .a)
  | .andB => .alu .and (.reg .b)
  | .andC => .alu .and (.reg .c)
  | .andD => .alu .and (.reg .d)
  | .andE => .alu .and (.reg .e)
  | .andH => .alu .and (.reg .h)
  | .andL => .alu .and (.reg .l)
  | .andMemHL => .alu .and .memHL
  | .andA => .alu .and (.reg .a)
  | .xorB => .alu .xor (.reg .b)
  | .xorC => .alu .xor (.reg .c)
  | .xorD => .alu .xor (.reg .d)
  | .xorE => .alu .xor (.reg .e)
  | .xorH => .alu .xor (.reg .h)
  | .xorL => .alu .xor (.reg .l)
  | .xorMemHL => .alu .xor .memHL
  | .xorA => .alu .xor (.reg .a)
  | .orB => .alu .or (.reg .b)
  | .orC => .alu .or (.reg .c)
  | .orD => .alu .or (.reg .d)
  | .orE => .alu .or (.reg .e)
  | .orH => .alu .or (.reg .h)
  | .orL => .alu .or (.reg .l)
  | .orMemHL => .alu .or .memHL
  | .orA => .alu .or (.reg .a)
  | .cpB => .alu .cp (.reg .b)
  | .cpC => .alu .cp (.reg .c)
  | .cpD => .alu .cp (.reg .d)
  | .cpE => .alu .cp (.reg .e)
  | .cpH => .alu .cp (.reg .h)
  | .cpL => .alu .cp (.reg .l)
  | .cpMemHL => .alu .cp .memHL
  | .cpA => .alu .cp (.reg .a)
  | .retNz => .retCond .nz
  | .popBC => .pop .bc
  | .jpNzA16 nn => .jpCond .nz nn
  | .jpA16 nn => .jp nn
  | .callNzA16 nn => .callCond .nz nn
  | .pushBC => .push .bc
  | .addAD8 n => .alu .add (.imm n)
  | .rst00H => .rst 0
  | .retZ => .retCond .z
  | .ret => .ret
  | .jpZA16 nn => .jpCond .z nn
  | .callZA16 nn => .callCond .z nn
  | .callA16 nn => .call nn
  | .adcAD8 n => .alu .adc (.imm n)
  | .rst08H => .rst 1
  | .retNc => .retCond .nc
  | .popDE => .pop .de
  | .jpNcA16 nn => .jpCond .nc nn
  | .callNcA16 nn => .callCond .nc nn
  | .pushDE => .push .de
  | .subD8 n => .alu .sub (.imm n)
  | .rst10H => .rst 2
  | .retC => .retCond .c
  | .reti => .reti
  | .jpCA16 nn => .jpCond .c nn
  | .callCA16 nn => .callCond .c nn
  | .sbcAD8 n => .alu .sbc (.imm n)
  | .rst18H => .rst 3
  | .ldhMemA8A n => .ldATo (.high n)
  | .popHL => .pop .hl
  | .ldMemCA => .ldATo .highC
  | .pushHL => .push .hl
  | .andD8 n => .alu .and (.imm n)
  | .rst20H => .rst 4
  | .addSPR8 e => .addSP e
  | .jpHL => .jpHL
  | .ldMemA16A nn => .ldATo (.abs nn)
  | .xorD8 n => .alu .xor (.imm n)
  | .rst28H => .rst 5
  | .ldhAMemA8 n => .ldAFrom (.high n)
  | .popAF => .pop .af
  | .ldAMemC => .ldAFrom .highC
  | .di => .di
  | .pushAF => .push .af
  | .orD8 n => .alu .or (.imm n)
  | .rst30H => .rst 6
  | .ldHLSPR8 e => .ldHLSP e
  | .ldSPHL => .ldSPHL
  | .ldAMemA16 nn => .ldAFrom (.abs nn)
  | .ei => .ei
  | .cpD8 n => .alu .cp (.imm n)
  | .rst38H => .rst 7
  | .undefD3 => .undefined 0xD3
  | .undefDB => .undefined 0xDB
  | .undefDD => .undefined 0xDD
  | .undefE3 => .undefined 0xE3
  | .undefE4 => .undefined 0xE4
  | .undefEB => .undefined 0xEB
  | .undefEC => .undefined 0xEC
  | .undefED => .undefined 0xED
  | .undefF4 => .undefined 0xF4
  | .undefFC => .undefined 0xFC
  | .undefFD => .undefined 0xFD
  | .rlcB => .rot .rlc (.reg .b)
  | .rlcC => .rot .rlc (.reg .c)
  | .rlcD => .rot .rlc (.reg .d)
  | .rlcE => .rot .rlc (.reg .e)
  | .rlcH => .rot .rlc (.reg .h)
  | .rlcL => .rot .rlc (.reg .l)
  | .rlcMemHL => .rot .rlc .memHL
  | .rlcA => .rot .rlc (.reg .a)
  | .rrcB => .rot .rrc (.reg .b)
  | .rrcC => .rot .rrc (.reg .c)
  | .rrcD => .rot .rrc (.reg .d)
  | .rrcE => .rot .rrc (.reg .e)
  | .rrcH => .rot .rrc (.reg .h)
  | .rrcL => .rot .rrc (.reg .l)
  | .rrcMemHL => .rot .rrc .memHL
  | .rrcA => .rot .rrc (.reg .a)
  | .rlB => .rot .rl (.reg .b)
  | .rlC => .rot .rl (.reg .c)
  | .rlD => .rot .rl (.reg .d)
  | .rlE => .rot .rl (.reg .e)
  | .rlH => .rot .rl (.reg .h)
  | .rlL => .rot .rl (.reg .l)
  | .rlMemHL => .rot .rl .memHL
  | .rlA => .rot .rl (.reg .a)
  | .rrB => .rot .rr (.reg .b)
  | .rrC => .rot .rr (.reg .c)
  | .rrD => .rot .rr (.reg .d)
  | .rrE => .rot .rr (.reg .e)
  | .rrH => .rot .rr (.reg .h)
  | .rrL => .rot .rr (.reg .l)
  | .rrMemHL => .rot .rr .memHL
  | .rrA => .rot .rr (.reg .a)
  | .slaB => .rot .sla (.reg .b)
  | .slaC => .rot .sla (.reg .c)
  | .slaD => .rot .sla (.reg .d)
  | .slaE => .rot .sla (.reg .e)
  | .slaH => .rot .sla (.reg .h)
  | .slaL => .rot .sla (.reg .l)
  | .slaMemHL => .rot .sla .memHL
  | .slaA => .rot .sla (.reg .a)
  | .sraB => .rot .sra (.reg .b)
  | .sraC => .rot .sra (.reg .c)
  | .sraD => .rot .sra (.reg .d)
  | .sraE => .rot .sra (.reg .e)
  | .sraH => .rot .sra (.reg .h)
  | .sraL => .rot .sra (.reg .l)
  | .sraMemHL => .rot .sra .memHL
  | .sraA => .rot .sra (.reg .a)
  | .swapB => .rot .swap (.reg .b)
  | .swapC => .rot .swap (.reg .c)
  | .swapD => .rot .swap (.reg .d)
  | .swapE => .rot .swap (.reg .e)
  | .swapH => .rot .swap (.reg .h)
  | .swapL => .rot .swap (.reg .l)
  | .swapMemHL => .rot .swap .memHL
  | .swapA => .rot .swap (.reg .a)
  | .srlB => .rot .srl (.reg .b)
  | .srlC => .rot .srl (.reg .c)
  | .srlD => .rot .srl (.reg .d)
  | .srlE => .rot .srl (.reg .e)
  | .srlH => .rot .srl (.reg .h)
  | .srlL => .rot .srl (.reg .l)
  | .srlMemHL => .rot .srl .memHL
  | .srlA => .rot .srl (.reg .a)
  | .bit0B => .bit 0 (.reg .b)
  | .bit0C => .bit 0 (.reg .c)
  | .bit0D => .bit 0 (.reg .d)
  | .bit0E => .bit 0 (.reg .e)
  | .bit0H => .bit 0 (.reg .h)
  | .bit0L => .bit 0 (.reg .l)
  | .bit0MemHL => .bit 0 .memHL
  | .bit0A => .bit 0 (.reg .a)
  | .bit1B => .bit 1 (.reg .b)
  | .bit1C => .bit 1 (.reg .c)
  | .bit1D => .bit 1 (.reg .d)
  | .bit1E => .bit 1 (.reg .e)
  | .bit1H => .bit 1 (.reg .h)
  | .bit1L => .bit 1 (.reg .l)
  | .bit1MemHL => .bit 1 .memHL
  | .bit1A => .bit 1 (.reg .a)
  | .bit2B => .bit 2 (.reg .b)
  | .bit2C => .bit 2 (.reg .c)
  | .bit2D => .bit 2 (.reg .d)
  | .bit2E => .bit 2 (.reg .e)
  | .bit2H => .bit 2 (.reg .h)
  | .bit2L => .bit 2 (.reg .l)
  | .bit2MemHL => .bit 2 .memHL
  | .bit2A => .bit 2 (.reg .a)
  | .bit3B => .bit 3 (.reg .b)
  | .bit3C => .bit 3 (.reg .c)
  | .bit3D => .bit 3 (.reg .d)
  | .bit3E => .bit 3 (.reg .e)
  | .bit3H => .bit 3 (.reg .h)
  | .bit3L => .bit 3 (.reg .l)
  | .bit3MemHL => .bit 3 .memHL
  | .bit3A => .bit 3 (.reg .a)
  | .bit4B => .bit 4 (.reg .b)
  | .bit4C => .bit 4 (.reg .c)
  | .bit4D => .bit 4 (.reg .d)
  | .bit4E => .bit 4 (.reg .e)
  | .bit4H => .bit 4 (.reg .h)
  | .bit4L => .bit 4 (.reg .l)
  | .bit4MemHL => .bit 4 .memHL
  | .bit4A => .bit 4 (.reg .a)
  | .bit5B => .bit 5 (.reg .b)
  | .bit5C => .bit 5 (.reg .c)
  | .bit5D => .bit 5 (.reg .d)
  | .bit5E => .bit 5 (.reg .e)
  | .bit5H => .bit 5 (.reg .h)
  | .bit5L => .bit 5 (.reg .l)
  | .bit5MemHL => .bit 5 .memHL
  | .bit5A => .bit 5 (.reg .a)
  | .bit6B => .bit 6 (.reg .b)
  | .bit6C => .bit 6 (.reg .c)
  | .bit6D => .bit 6 (.reg .d)
  | .bit6E => .bit 6 (.reg .e)
  | .bit6H => .bit 6 (.reg .h)
  | .bit6L => .bit 6 (.reg .l)
  | .bit6MemHL => .bit 6 .memHL
  | .bit6A => .bit 6 (.reg .a)
  | .bit7B => .bit 7 (.reg .b)
  | .bit7C => .bit 7 (.reg .c)
  | .bit7D => .bit 7 (.reg .d)
  | .bit7E => .bit 7 (.reg .e)
  | .bit7H => .bit 7 (.reg .h)
  | .bit7L => .bit 7 (.reg .l)
  | .bit7MemHL => .bit 7 .memHL
  | .bit7A => .bit 7 (.reg .a)
  | .res0B => .res 0 (.reg .b)
  | .res0C => .res 0 (.reg .c)
  | .res0D => .res 0 (.reg .d)
  | .res0E => .res 0 (.reg .e)
  | .res0H => .res 0 (.reg .h)
  | .res0L => .res 0 (.reg .l)
  | .res0MemHL => .res 0 .memHL
  | .res0A => .res 0 (.reg .a)
  | .res1B => .res 1 (.reg .b)
  | .res1C => .res 1 (.reg .c)
  | .res1D => .res 1 (.reg .d)
  | .res1E => .res 1 (.reg .e)
  | .res1H => .res 1 (.reg .h)
  | .res1L => .res 1 (.reg .l)
  | .res1MemHL => .res 1 .memHL
  | .res1A => .res 1 (.reg .a)
  | .res2B => .res 2 (.reg .b)
  | .res2C => .res 2 (.reg .c)
  | .res2D => .res 2 (.reg .d)
  | .res2E => .res 2 (.reg .e)
  | .res2H => .res 2 (.reg .h)
  | .res2L => .res 2 (.reg .l)
  | .res2MemHL => .res 2 .memHL
  | .res2A => .res 2 (.reg .a)
  | .res3B => .res 3 (.reg .b)
  | .res3C => .res 3 (.reg .c)
  | .res3D => .res 3 (.reg .d)
  | .res3E => .res 3 (.reg .e)
  | .res3H => .res 3 (.reg .h)
  | .res3L => .res 3 (.reg .l)
  | .res3MemHL => .res 3 .memHL
  | .res3A => .res 3 (.reg .a)
  | .res4B => .res 4 (.reg .b)
  | .res4C => .res 4 (.reg .c)
  | .res4D => .res 4 (.reg .d)
  | .res4E => .res 4 (.reg .e)
  | .res4H => .res 4 (.reg .h)
  | .res4L => .res 4 (.reg .l)
  | .res4MemHL => .res 4 .memHL
  | .res4A => .res 4 (.reg .a)
  | .res5B => .res 5 (.reg .b)
  | .res5C => .res 5 (.reg .c)
  | .res5D => .res 5 (.reg .d)
  | .res5E => .res 5 (.reg .e)
  | .res5H => .res 5 (.reg .h)
  | .res5L => .res 5 (.reg .l)
  | .res5MemHL => .res 5 .memHL
  | .res5A => .res 5 (.reg .a)
  | .res6B => .res 6 (.reg .b)
  | .res6C => .res 6 (.reg .c)
  | .res6D => .res 6 (.reg .d)
  | .res6E => .res 6 (.reg .e)
  | .res6H => .res 6 (.reg .h)
  | .res6L => .res 6 (.reg .l)
  | .res6MemHL => .res 6 .memHL
  | .res6A => .res 6 (.reg .a)
  | .res7B => .res 7 (.reg .b)
  | .res7C => .res 7 (.reg .c)
  | .res7D => .res 7 (.reg .d)
  | .res7E => .res 7 (.reg .e)
  | .res7H => .res 7 (.reg .h)
  | .res7L => .res 7 (.reg .l)
  | .res7MemHL => .res 7 .memHL
  | .res7A => .res 7 (.reg .a)
  | .set0B => .set 0 (.reg .b)
  | .set0C => .set 0 (.reg .c)
  | .set0D => .set 0 (.reg .d)
  | .set0E => .set 0 (.reg .e)
  | .set0H => .set 0 (.reg .h)
  | .set0L => .set 0 (.reg .l)
  | .set0MemHL => .set 0 .memHL
  | .set0A => .set 0 (.reg .a)
  | .set1B => .set 1 (.reg .b)
  | .set1C => .set 1 (.reg .c)
  | .set1D => .set 1 (.reg .d)
  | .set1E => .set 1 (.reg .e)
  | .set1H => .set 1 (.reg .h)
  | .set1L => .set 1 (.reg .l)
  | .set1MemHL => .set 1 .memHL
  | .set1A => .set 1 (.reg .a)
  | .set2B => .set 2 (.reg .b)
  | .set2C => .set 2 (.reg .c)
  | .set2D => .set 2 (.reg .d)
  | .set2E => .set 2 (.reg .e)
  | .set2H => .set 2 (.reg .h)
  | .set2L => .set 2 (.reg .l)
  | .set2MemHL => .set 2 .memHL
  | .set2A => .set 2 (.reg .a)
  | .set3B => .set 3 (.reg .b)
  | .set3C => .set 3 (.reg .c)
  | .set3D => .set 3 (.reg .d)
  | .set3E => .set 3 (.reg .e)
  | .set3H => .set 3 (.reg .h)
  | .set3L => .set 3 (.reg .l)
  | .set3MemHL => .set 3 .memHL
  | .set3A => .set 3 (.reg .a)
  | .set4B => .set 4 (.reg .b)
  | .set4C => .set 4 (.reg .c)
  | .set4D => .set 4 (.reg .d)
  | .set4E => .set 4 (.reg .e)
  | .set4H => .set 4 (.reg .h)
  | .set4L => .set 4 (.reg .l)
  | .set4MemHL => .set 4 .memHL
  | .set4A => .set 4 (.reg .a)
  | .set5B => .set 5 (.reg .b)
  | .set5C => .set 5 (.reg .c)
  | .set5D => .set 5 (.reg .d)
  | .set5E => .set 5 (.reg .e)
  | .set5H => .set 5 (.reg .h)
  | .set5L => .set 5 (.reg .l)
  | .set5MemHL => .set 5 .memHL
  | .set5A => .set 5 (.reg .a)
  | .set6B => .set 6 (.reg .b)
  | .set6C => .set 6 (.reg .c)
  | .set6D => .set 6 (.reg .d)
  | .set6E => .set 6 (.reg .e)
  | .set6H => .set 6 (.reg .h)
  | .set6L => .set 6 (.reg .l)
  | .set6MemHL => .set 6 .memHL
  | .set6A => .set 6 (.reg .a)
  | .set7B => .set 7 (.reg .b)
  | .set7C => .set 7 (.reg .c)
  | .set7D => .set 7 (.reg .d)
  | .set7E => .set 7 (.reg .e)
  | .set7H => .set 7 (.reg .h)
  | .set7L => .set 7 (.reg .l)
  | .set7MemHL => .set 7 .memHL
  | .set7A => .set 7 (.reg .a)

/-! ## Encodings, as the `Encoding` line of each rule gives them -/

/-- The field code `r` of R303; code 6 is the byte at HL. -/
def regCode : Reg8 → BitVec 3
  | .b => 0
  | .c => 1
  | .d => 2
  | .e => 3
  | .h => 4
  | .l => 5
  | .a => 7

/-- The field code `r` of R303 of a register or of the byte at HL. -/
def targetCode : Target → BitVec 3
  | .reg r => regCode r
  | .memHL => 6

/-- The field code `rp` of R303. -/
def pairCode : Pair → BitVec 2
  | .bc => 0
  | .de => 1
  | .hl => 2
  | .sp => 3

/-- The field code `qq` of R303. -/
def stackPairCode : StackPair → BitVec 2
  | .bc => 0
  | .de => 1
  | .hl => 2
  | .af => 3

/-- The field code `cc` of R303. -/
def condCode : Cond → BitVec 2
  | .nz => 0
  | .z => 1
  | .nc => 2
  | .c => 3

/-- The field code `alu` of R303. -/
def aluCode : AluOp → BitVec 3
  | .add => 0
  | .adc => 1
  | .sub => 2
  | .sbc => 3
  | .and => 4
  | .xor => 5
  | .or => 6
  | .cp => 7

/-- The field code `rot` of R303. -/
def rotCode : RotOp → BitVec 3
  | .rlc => 0
  | .rrc => 1
  | .rl => 2
  | .rr => 3
  | .sla => 4
  | .sra => 5
  | .swap => 6
  | .srl => 7

/-- A bit number or a restart number as a three-bit field. -/
def threeBits (b : Fin 8) : BitVec 3 := BitVec.ofNat 3 b.val

/-- An opcode with a 16-bit immediate, the low byte first (R304). -/
def withWord (op : Byte) (nn : Word) : List Byte := [op, loByte nn, hiByte nn]

/-- The bytes of an instruction by the bit pattern its rule states, fields `x y z` of R302. STOP's second byte is the conventional
0x00 (R1203). -/
def Form.bytes : Form → List Byte
  | .ldRegReg dst src => [0b01#2 ++ regCode dst ++ regCode src]
  | .ldRegImm dst n => [0b00#2 ++ regCode dst ++ 0b110#3, n]
  | .ldRegMem dst => [0b01#2 ++ regCode dst ++ 0b110#3]
  | .ldMemReg src => [0b01110#5 ++ regCode src]
  | .ldMemImm n => [0b00110110#8, n]
  | .ldAFrom .bc => [0b00001010#8]
  | .ldAFrom .de => [0b00011010#8]
  | .ldAFrom (.abs nn) => withWord 0b11111010#8 nn
  | .ldAFrom .highC => [0b11110010#8]
  | .ldAFrom (.high n) => [0b11110000#8, n]
  | .ldATo .bc => [0b00000010#8]
  | .ldATo .de => [0b00010010#8]
  | .ldATo (.abs nn) => withWord 0b11101010#8 nn
  | .ldATo .highC => [0b11100010#8]
  | .ldATo (.high n) => [0b11100000#8, n]
  | .ldAFromHL .inc => [0b00101010#8]
  | .ldAFromHL .dec => [0b00111010#8]
  | .ldAToHL .inc => [0b00100010#8]
  | .ldAToHL .dec => [0b00110010#8]
  | .ldPairImm p nn => withWord (0b00#2 ++ pairCode p ++ 0b0001#4) nn
  | .ldMemSP nn => withWord 0b00001000#8 nn
  | .ldSPHL => [0b11111001#8]
  | .push q => [0b11#2 ++ stackPairCode q ++ 0b0101#4]
  | .pop q => [0b11#2 ++ stackPairCode q ++ 0b0001#4]
  | .alu op (.reg r) => [0b10#2 ++ aluCode op ++ regCode r]
  | .alu op .memHL => [0b10#2 ++ aluCode op ++ 0b110#3]
  | .alu op (.imm n) => [0b11#2 ++ aluCode op ++ 0b110#3, n]
  | .inc8 t => [0b00#2 ++ targetCode t ++ 0b100#3]
  | .dec8 t => [0b00#2 ++ targetCode t ++ 0b101#3]
  | .daa => [0b00100111#8]
  | .cpl => [0b00101111#8]
  | .scf => [0b00110111#8]
  | .ccf => [0b00111111#8]
  | .addHL p => [0b00#2 ++ pairCode p ++ 0b1001#4]
  | .incPair p => [0b00#2 ++ pairCode p ++ 0b0011#4]
  | .decPair p => [0b00#2 ++ pairCode p ++ 0b1011#4]
  | .addSP e => [0b11101000#8, e]
  | .ldHLSP e => [0b11111000#8, e]
  | .rotA op => [0b00#2 ++ rotCode op ++ 0b111#3]
  | .rot op t => [0xCB, 0b00#2 ++ rotCode op ++ targetCode t]
  | .bit b t => [0xCB, 0b01#2 ++ threeBits b ++ targetCode t]
  | .res b t => [0xCB, 0b10#2 ++ threeBits b ++ targetCode t]
  | .set b t => [0xCB, 0b11#2 ++ threeBits b ++ targetCode t]
  | .jp nn => withWord 0b11000011#8 nn
  | .jpCond cc nn => withWord (0b110#3 ++ condCode cc ++ 0b010#3) nn
  | .jpHL => [0b11101001#8]
  | .jr e => [0b00011000#8, e]
  | .jrCond cc e => [0b001#3 ++ condCode cc ++ 0b000#3, e]
  | .call nn => withWord 0b11001101#8 nn
  | .callCond cc nn => withWord (0b110#3 ++ condCode cc ++ 0b100#3) nn
  | .ret => [0b11001001#8]
  | .retCond cc => [0b110#3 ++ condCode cc ++ 0b000#3]
  | .reti => [0b11011001#8]
  | .rst t => [0b11#2 ++ threeBits t ++ 0b111#3]
  | .nop => [0b00000000#8]
  | .halt => [0b01110110#8]
  | .stop => [0b00010000#8, 0x00]
  | .di => [0b11110011#8]
  | .ei => [0b11111011#8]
  | .undefined b => [b]

/-! ## Lengths and costs that depend on the operand -/

/-- The length of a load or store of A through `ea` (R506 to R515). -/
def Ea.length : Ea → Nat
  | .bc => 1
  | .de => 1
  | .abs _ => 3
  | .highC => 1
  | .high _ => 2

/-- Its cycles. -/
def Ea.cycles : Ea → Nat
  | .bc => 8
  | .de => 8
  | .abs _ => 16
  | .highC => 8
  | .high _ => 12

/-- The length of an 8-bit ALU instruction (R701 to R724). -/
def Source.length : Source → Nat
  | .reg _ => 1
  | .memHL => 1
  | .imm _ => 2

/-- Its cycles. -/
def Source.cycles : Source → Nat
  | .reg _ => 4
  | .memHL => 8
  | .imm _ => 8

/-! ## What a rule writes -/

/-- Whether a pair's write reaches the register (R104). -/
def pairHas (p : Pair) (r : Reg8) : Bool :=
  match p with
  | .bc => r == .b || r == .c
  | .de => r == .d || r == .e
  | .hl => r == .h || r == .l
  | .sp => false

/-- Whether a pop into the pair reaches the register (R605, R606). -/
def stackPairHas (q : StackPair) (r : Reg8) : Bool :=
  match q with
  | .bc => r == .b || r == .c
  | .de => r == .d || r == .e
  | .hl => r == .h || r == .l
  | .af => r == .a

/-- Whether the target is the register. -/
def targetIs (t : Target) (r : Reg8) : Bool := t == .reg r

/-- The registers of R101 that the rule's pseudocode assigns. -/
def Form.writesReg (f : Form) (r : Reg8) : Bool :=
  match f with
  | .ldRegReg dst _ => r == dst
  | .ldRegImm dst _ => r == dst
  | .ldRegMem dst => r == dst
  | .ldAFrom _ => r == .a
  | .ldAFromHL _ => r == .a || r == .h || r == .l
  | .ldAToHL _ => r == .h || r == .l
  | .ldPairImm p _ => pairHas p r
  | .pop q => stackPairHas q r
  | .alu op _ => op != .cp && r == .a
  | .inc8 t => targetIs t r
  | .dec8 t => targetIs t r
  | .daa => r == .a
  | .cpl => r == .a
  | .addHL _ => r == .h || r == .l
  | .incPair p => pairHas p r
  | .decPair p => pairHas p r
  | .ldHLSP _ => r == .h || r == .l
  | .rotA _ => r == .a
  | .rot _ t => targetIs t r
  | .res _ t => targetIs t r
  | .set _ t => targetIs t r
  | .ldMemReg _ | .ldMemImm _ | .ldATo _ | .ldMemSP _ | .ldSPHL | .push _ | .scf | .ccf | .addSP _ | .bit _ _ | .jp _
  | .jpCond _ _ | .jpHL | .jr _ | .jrCond _ _ | .call _ | .callCond _ _ | .ret | .retCond _ | .reti | .rst _ | .nop
  | .halt | .stop | .di | .ei | .undefined _ => false

/-- Whether the rule assigns SP (R106). -/
def Form.writesSP : Form → Bool
  | .ldPairImm p _ => p == .sp
  | .incPair p => p == .sp
  | .decPair p => p == .sp
  | .ldSPHL | .push _ | .pop _ | .addSP _ | .call _ | .callCond _ _ | .ret | .retCond _ | .reti | .rst _ => true
  | .ldRegReg _ _ | .ldRegImm _ _ | .ldRegMem _ | .ldMemReg _ | .ldMemImm _ | .ldAFrom _ | .ldATo _ | .ldAFromHL _
  | .ldAToHL _ | .ldMemSP _ | .alu _ _ | .inc8 _ | .dec8 _ | .daa | .cpl | .scf | .ccf | .addHL _ | .ldHLSP _ | .rotA _
  | .rot _ _ | .bit _ _ | .res _ _ | .set _ _ | .jp _ | .jpCond _ _ | .jpHL | .jr _ | .jrCond _ _ | .nop | .halt | .stop
  | .di | .ei | .undefined _ => false

/-- The flags line of the rule (R15): true where the rule writes the flag, false where the line has `-`. -/
def Form.writesFlag : Form → Flags
  | .alu _ _ => ⟨true, true, true, true⟩
  | .inc8 _ => ⟨true, true, true, false⟩
  | .dec8 _ => ⟨true, true, true, false⟩
  | .daa => ⟨true, false, true, true⟩
  | .cpl => ⟨false, true, true, false⟩
  | .scf => ⟨false, true, true, true⟩
  | .ccf => ⟨false, true, true, true⟩
  | .addHL _ => ⟨false, true, true, true⟩
  | .addSP _ => ⟨true, true, true, true⟩
  | .ldHLSP _ => ⟨true, true, true, true⟩
  | .rotA _ => ⟨true, true, true, true⟩
  | .rot _ _ => ⟨true, true, true, true⟩
  | .bit _ _ => ⟨true, true, true, false⟩
  | .pop q => if q = .af then ⟨true, true, true, true⟩ else ⟨false, false, false, false⟩
  | .ldRegReg _ _ | .ldRegImm _ _ | .ldRegMem _ | .ldMemReg _ | .ldMemImm _ | .ldAFrom _ | .ldATo _ | .ldAFromHL _
  | .ldAToHL _ | .ldPairImm _ _ | .ldMemSP _ | .ldSPHL | .push _ | .incPair _ | .decPair _ | .res _ _ | .set _ _ | .jp _
  | .jpCond _ _ | .jpHL | .jr _ | .jrCond _ _ | .call _ | .callCond _ _ | .ret | .retCond _ | .reti | .rst _ | .nop
  | .halt | .stop | .di | .ei | .undefined _ => ⟨false, false, false, false⟩

/-- The target of a read-modify-write as a stored address: the byte at HL, or none for a register. -/
def Target.storedAt (t : Target) (s : State) : List Word :=
  match t with
  | .reg _ => []
  | .memHL => [s.regs.hl]

/-- The two bytes a push stores, in its order (R600). -/
def State.pushedAt (s : State) : List Word := [s.sp - 1, s.sp - 2]

/-- The addresses at which an instruction calls `MemWrite`, from the state before it, in the order of its pseudocode; none for a
form that stores nothing. -/
def Form.storedAt (f : Form) (s : State) : List Word :=
  match f with
  | .ldMemReg _ => [s.regs.hl]
  | .ldMemImm _ => [s.regs.hl]
  | .ldATo ea => [s.ea ea]
  | .ldAToHL _ => [s.regs.hl]
  | .ldMemSP nn => [nn, nn + 1]
  | .push _ => s.pushedAt
  | .inc8 t => t.storedAt s
  | .dec8 t => t.storedAt s
  | .rot _ t => t.storedAt s
  | .res _ t => t.storedAt s
  | .set _ t => t.storedAt s
  | .call _ => s.pushedAt
  | .callCond cc _ => if condHolds cc s then s.pushedAt else []
  | .rst _ => s.pushedAt
  | .ldRegReg _ _ | .ldRegImm _ _ | .ldRegMem _ | .ldAFrom _ | .ldAFromHL _ | .ldPairImm _ _ | .ldSPHL | .pop _ | .alu _ _
  | .daa | .cpl | .scf | .ccf | .addHL _ | .incPair _ | .decPair _ | .addSP _ | .ldHLSP _ | .rotA _ | .bit _ _ | .jp _
  | .jpCond _ _ | .jpHL | .jr _ | .jrCond _ _ | .ret | .retCond _ | .reti | .nop | .halt | .stop | .di | .ei
  | .undefined _ => []

/-- Whether the rule reads the byte at HL through `MemRead` (R503, R516, R518, R702, R726, R906, R1000 and their like). -/
def Form.readsHL : Form → Bool
  | .ldRegMem _ => true
  | .ldAFromHL _ => true
  | .alu _ src => src == .memHL
  | .inc8 t => t == .memHL
  | .dec8 t => t == .memHL
  | .rot _ t => t == .memHL
  | .bit _ t => t == .memHL
  | .res _ t => t == .memHL
  | .set _ t => t == .memHL
  | .ldRegReg _ _ | .ldRegImm _ _ | .ldMemReg _ | .ldMemImm _ | .ldAFrom _ | .ldATo _ | .ldAToHL _ | .ldPairImm _ _
  | .ldMemSP _ | .ldSPHL | .push _ | .pop _ | .daa | .cpl | .scf | .ccf | .addHL _ | .incPair _ | .decPair _ | .addSP _
  | .ldHLSP _ | .rotA _ | .jp _ | .jpCond _ _ | .jpHL | .jr _ | .jrCond _ _ | .call _ | .callCond _ _ | .ret | .retCond _
  | .reti | .rst _ | .nop | .halt | .stop | .di | .ei | .undefined _ => false

/-! ## Operands as the statements name them -/

/-- The operand of an 8-bit ALU instruction is `v`. -/
def State.reads (s : State) (src : Source) (v : Byte) : Prop :=
  match src with
  | .reg r => s.regs.get r = v
  | .memHL => s.memRead s.regs.hl = .ok v
  | .imm n => n = v

/-- The operand byte of a read-modify-write or of BIT is `v`. -/
def State.targetReads (s : State) (t : Target) (v : Byte) : Prop :=
  match t with
  | .reg r => s.regs.get r = v
  | .memHL => s.memRead s.regs.hl = .ok v

/-- The state with `v` written back to the operand. -/
def State.writeTarget (t : Target) (v : Byte) (s : State) : State :=
  match t with
  | .reg r => s.setReg r v
  | .memHL => s.memWrite s.regs.hl v

/-- The CPU reads these bytes at `p`, one address after the other. -/
def State.fetches (s : State) (p : Word) (bytes : List Byte) : Prop :=
  match bytes with
  | [] => True
  | b :: rest => s.memRead p = .ok b ∧ State.fetches s (p + 1) rest

/-- A bus byte that is plain storage for the CPU (R120): outside the windows of the bank controller, and none of STAT, LY and the
DMA trigger. -/
def isPlain (a : Word) : Prop :=
  0x8000 ≤ a.toNat ∧ (a.toNat < 0xA000 ∨ 0xC000 ≤ a.toNat) ∧ a.toNat ≠ Params.addrSTAT ∧ a.toNat ≠ Params.addrLY ∧
    a.toNat ≠ Params.addrDMA

/-- The bit a rotate or shift moves into fC (R900). -/
def rotCarry (op : RotOp) (v : Byte) : Bool :=
  match op with
  | .rlc => v.msb
  | .rl => v.msb
  | .sla => v.msb
  | .rrc => v.getLsbD 0
  | .rr => v.getLsbD 0
  | .sra => v.getLsbD 0
  | .srl => v.getLsbD 0
  | .swap => false

/-- The result of a rotate, shift or SWAP (R900), as a movement of bit fields. -/
def rotResult (op : RotOp) (v : Byte) (carry : Bool) : Byte :=
  match op with
  | .rlc => v.rotateLeft 1
  | .rrc => v.rotateRight 1
  | .rl => v.extractLsb' 0 7 ++ BitVec.ofBool carry
  | .rr => BitVec.ofBool carry ++ v.extractLsb' 1 7
  | .sla => v.extractLsb' 0 7 ++ 0#1
  | .sra => v.sshiftRight 1
  | .swap => v.extractLsb' 0 4 ++ v.extractLsb' 4 4
  | .srl => 0#1 ++ v.extractLsb' 1 7

end Sys2Proof.Machine
end

