-- ==== Sys2Proof/Machine/Session.lean ====
section
/-! DEFINITION. Reset as the construction of a session (70_reset_and_hazards.md R1500, R1501): the load-time checks of 20_memory.md
R239, and the first state of a session for every choice of the open parameters. -/

namespace Sys2Proof.Machine

/-- A load-time failure: no session and no state exists (R239, R1303). It is not a Fault of the machine. -/
inductive LoadFailure where
  | imageTooShort (romLen : Nat)
  | unsupportedController (code : Byte)
  | unknownRamSize (code : Byte)
deriving DecidableEq, Repr

/-- The CPU registers of `P_RESET_REGS` (R140). -/
structure ResetRegs where
  regs : Regs
  flags : Flags
  sp : Word
  pc : Word
deriving DecidableEq, Repr

/-- The default `P_RESET_REGS` (R140, D26). -/
def ResetRegs.default : ResetRegs where
  regs := { a := 0x01, b := 0x00, c := 0x13, d := 0x00, e := 0xD8, h := 0x01, l := 0x4D }
  flags := Flags.ofByte 0xB0
  sp := 0xFFFE
  pc := 0x0100

/-- The load-time checks (R239), in the order image, controller type, RAM size; none means the image is accepted. DESIGN CHOICE,
safe (log 13): the spec gives no order, and any failing check refuses the launch. -/
def Cart.loadCheck (c : Cart) : Option LoadFailure :=
  let code := c.byte Params.headerTypeOffset
  let ramCode := c.byte Params.headerRamOffset
  if c.romLen < Params.minRomLen then some (.imageTooShort c.romLen)
  else if code ∉ Params.supportedCartTypes then some (.unsupportedController code)
  else if Params.ramSizeOfCode ramCode = none then some (.unknownRamSize ramCode)
  else none

/-- A storage with the cells of a list, in canonical form, cells at or past `bound` left out. -/
def Store.ofCells {w : Nat} (unlisted : Nat → BitVec w) (bound : Nat) (cells : Store w) : Store w :=
  match cells with
  | [] => []
  | (i, v) :: rest =>
    let m := Store.ofCells unlisted bound rest
    if i < bound then Store.write unlisted m i v else m

/-- The bus at reset (R141): `P_BUS_INIT`, but IF = IE = LY = 0x00 and STAT bits 1 to 0 = 2. -/
def busAtReset (busInit : Memory) (s : State) : State :=
  let s := { s with bus := Store.ofCells Config.busUnlisted 0x10000 busInit }
  let s := ((s.busPoke Params.addrIF 0).busPoke Params.addrIE 0).busPoke Params.addrLY 0
  s.busPoke Params.addrSTAT ((s.busRead Params.addrSTAT &&& 0xFC) ||| 2)

/-- The construction of a session (R1500, R1535): the first state, for an image that passes the load-time checks and any
`P_BUS_INIT`, `P_CART_RAM_INIT`, `P_RESET_REGS`, framebuffer contents and host inputs. -/
def startSession (cart : Cart) (busInit ramInit : Memory) (fbActive fbPresented : Store 2) (r : ResetRegs)
    (extReq : List (BitVec 5)) : Except LoadFailure State :=
  match cart.loadCheck with
  | some f => .error f
  | none =>
    let cart := { cart with rom := Store.ofCells Config.romUnlisted cart.romLen cart.rom }
    .ok (busAtReset busInit
      { State.reset with
        regs := r.regs, flags := r.flags, sp := r.sp, pc := r.pc, cart := cart, extReq := extReq
        bank := { State.reset.bank with ram := Store.ofCells Config.ramUnlisted cart.ramSize ramInit }
        ppu := { State.reset.ppu with
          fbActive := Store.ofCells Config.shadeUnlisted 0x10000 fbActive
          fbPresented := Store.ofCells Config.shadeUnlisted 0x10000 fbPresented } })

end Sys2Proof.Machine
end

