-- ==== Sys2Proof/Safety.lean ====
section
/-! DEFINITION. The invariants of a running machine, and the terms the statements use. -/

namespace Sys2Proof.Machine

/-- Every storage is in its canonical form: the bus, the external RAM, both framebuffers and the ROM image. -/
def State.storesWf (s : State) : Prop :=
  Memory.wf Config.busUnlisted 0x10000 s.bus ∧
  Memory.wf Config.ramUnlisted s.cart.ramSize s.bank.ram ∧
  Store.wf Config.shadeUnlisted 0x10000 s.ppu.fbActive ∧
  Store.wf Config.shadeUnlisted 0x10000 s.ppu.fbPresented ∧
  Memory.wf Config.romUnlisted s.cart.romLen s.cart.rom

/-- The bank controller's registers (10_state.md R125, 20_memory.md R231, R233): the five low bits of romBank are never 0, and the
RAM bank is 0 in ROM-banking mode. -/
def State.bankLegal (s : State) : Prop :=
  s.bank.romBank.extractLsb' 0 5 ≠ 0 ∧ (s.bank.bankingMode = .romBanking → s.bank.ramBank = 0)

/-- The CPU control state between steps: halted implies IME (48_cpu_control.md R1202), IF is zero (60_exceptions.md R1313), and no
fault is recorded. -/
def State.controlLegal (s : State) : Prop :=
  (s.halted = true → s.ime = true) ∧ s.busRead Params.addrIF = 0 ∧ s.fault = none

/-- The PPU in step with `frameCycles` between steps (R1341 to R1347). Either the frame is under way and the line, the phase, the
render flag and the edge flag are those of the cycle count, or the last step ended the frame and they are those of line 153. LY is
the line either way. -/
def State.ppuInStep (s : State) : Prop :=
  (s.busRead Params.addrLY).toNat = s.ppu.line ∧
  ((s.ppu.line = s.frameCycles / Params.lineCycles ∧ s.frameCycles < Params.frameCycles ∧
    (s.busRead Params.addrSTAT).extractLsb' 0 2 = phaseOf s.ppu.line (s.frameCycles % Params.lineCycles)) ∨
   (s.ppu.line = Params.linesTotal - 1 ∧ s.frameCycles < 24 ∧
    (s.busRead Params.addrSTAT).extractLsb' 0 2 = 1)) ∧
  (s.ppu.rendered = true ↔ (s.busRead Params.addrSTAT).extractLsb' 0 2 = 0) ∧
  (s.ppu.vblankFired = true ↔ Params.linesVisible ≤ s.ppu.line)

/-- The whole invariant of a machine between steps. -/
def State.Inv (s : State) : Prop := s.storesWf ∧ s.bankLegal ∧ s.controlLegal ∧ s.ppuInStep

/-- The opcode bytes of an instruction: two after the prefix 0xCB, else one (R301). -/
def opcodeBytes (i : Sys2Proof.Instr) : List Byte :=
  match Sys2Proof.encode i with
  | [] => []
  | b0 :: rest => if b0 = 0xCB then b0 :: rest.take 1 else [b0]

/-- Request `k` is raised in IF and enabled in IE (R1312). -/
def State.pending (s : State) (k : Fin 5) : Prop :=
  (s.busRead Params.addrIF).getLsbD k.val = true ∧ (s.busRead Params.addrIE).getLsbD k.val = true

/-- What a system step does after the CPU step, in the order of R400. -/
def afterCpuStep (s : State) : Result :=
  let cum := s.frameCycles + s.stepCycles
  let raised := externalRequests (ppuStep cum { s with frameCycles := cum })
  andThen (icDispatch raised) fun t => .next (frameLoopCheck (icClearAll t))

end Sys2Proof.Machine
end

