-- ==== Sys2Proof/Certificates/Slice0/Obligations.lean ====
section
/-! DEFINITION. The statements for the provers. Each says what one or more numbered rules of the spec say of the machine. A
statement about an instruction speaks of every row of its form (`formOf`), gives the whole next state, so that what it does not
name is unchanged, and holds in every state. -/

section

open Sys2Proof Sys2Proof.Machine

/-! ## Encoding -/

/-- Decoding the bytes of a well-formed instruction, whatever follows them, gives it back with what follows (R301,
R302). That STOP's second byte is encoded 0x00 is the model's choice (log 15). -/
def Obligations.DecodeOfEncode : Prop :=
  ∀ (i : Instr) (rest : List Byte), i.wellFormed = true → decode (encode i ++ rest) = .ok (i, rest)

/-- A byte sequence decodes only from the encoding of the instruction read, except that STOP's second byte is any byte
(R305, R306, R1203). That the encoder writes 0x00 there is the model's choice (log 15). -/
def Obligations.EncodeOfDecode : Prop :=
  ∀ (bytes rest : List Byte) (i : Instr), decode bytes = .ok (i, rest) →
    (i ≠ .stop → bytes = encode i ++ rest) ∧ (i = .stop → ∃ any : Byte, bytes = 0x10 :: any :: rest)

/-- A few words written out from the encodings of the rules decode to the instructions they stand for (R501, R601,
R703, R801, R905, R1002, R1106, R1202). -/
def Obligations.SampleWordsDecode : Prop :=
  decode [0b01000001] = .ok (.ldBC, []) ∧
  decode [0b00100001, 0x00, 0xC0] = .ok (.ldHLD16 0xC000, []) ∧
  decode [0b11000110, 0x01] = .ok (.addAD8 0x01, []) ∧
  decode [0b00001001] = .ok (.addHLBC, []) ∧
  decode [0xCB, 0b00000111] = .ok (.rlcA, []) ∧
  decode [0xCB, 0b01100110] = .ok (.bit4MemHL, []) ∧
  decode [0b11001101, 0x00, 0x02] = .ok (.callA16 0x0200, []) ∧
  decode [0b01110110] = .ok (.halt, [])

/-- An instruction is 1, 2 or 3 bytes long; its first byte alone fixes the length: after the prefix 0xCB it is 2, else
the length of the byte's table entry (R300, R309). -/
def Obligations.InstructionLengths : Prop :=
  (∀ i : Instr, 1 ≤ (encode i).length ∧ (encode i).length ≤ 3) ∧
  (∀ (i j : Instr) (b : Byte) (m n : List Byte), encode i = b :: m → encode j = b :: n → m.length = n.length) ∧
  (∀ (i : Instr) (m : List Byte), encode i = 0xCB :: m → m.length = 1) ∧
  (∀ (i : Instr) (b : Byte) (m : List Byte) (e : Entry), encode i = b :: m → opCell b = .entry e → e.length = m.length + 1)

/-- Every row of the opcode maps has the bit pattern that its rule's Encoding line states, with the field codes of
R303. That STOP's second byte is encoded 0x00 is the model's choice (log 15). -/
def Obligations.EncodingFollowsRulePatterns : Prop := ∀ i : Instr, encode i = (formOf i).bytes

/-- A byte with no table entry raises UNDEFINED_OPCODE and changes nothing else (R307, R404): the eleven bytes are
exactly those whose decoding is ill formed, the machine stops on them, and so does the meaning of each of the eleven
rows. That the eleven bytes have rows of their own, ill formed, is the model's choice (log 12). -/
def Obligations.UndefinedBytesFault : Prop :=
  (∀ b : Byte, (∃ i : Instr, i.wellFormed = false ∧ ∀ rest, decode (b :: rest) = .ok (i, rest)) ↔
    b ∈ [0xD3, 0xDB, 0xDD, 0xE3, 0xE4, 0xEB, 0xEC, 0xED, 0xF4, 0xFC, (0xFD : Byte)]) ∧
  (∀ (b : Byte) (s : State), b ∈ [0xD3, 0xDB, 0xDD, 0xE3, 0xE4, 0xEB, 0xEC, 0xED, 0xF4, 0xFC, (0xFD : Byte)] →
    s.fault = none → s.halted = false → s.memRead s.pc = .ok b →
    step s = .fault (.undefinedOpcode b s.pc { s with fault := some (.undefinedOpcode b s.pc) })) ∧
  (∀ (i : Instr) (s : State), i.wellFormed = false →
    ∃ b : Byte, encode i = [b] ∧
      exec i s = .fault (.undefinedOpcode b s.pc { s with fault := some (.undefinedOpcode b s.pc) }))

/-! ## The system step -/

/-- When the bytes at PC decode to a well-formed instruction that has a handler, a step of a running machine is that
instruction's meaning followed by the PPU step, the external requests, the dispatch, the clearing of IF and the frame
loop (R400, R401, R408). STOP needs only its first byte (R405). The other clauses are the faults of fetching it, in the
order of R1302 (1), (2), (4) and (5), each before any effect, so that only the fault record is written: an unreadable
opcode byte (R403); after the prefix 0xCB, PC_RANGE at 0xFFFF, else an unreadable second byte (R403); PCnext past
0xFFFF, with or without a handler and whether or not an operand byte can be read (R406); an unreadable operand byte,
the low one first (R405). Each ROM_BOUNDS carries the address that was read. That a session's handler restriction
stands in the state is the model's choice (log 8). -/
def Obligations.StepRunsDecodedInstruction : Prop :=
  (∀ (s : State) (i : Instr) (bytes : List Byte),
    s.fault = none → s.halted = false → i.wellFormed = true → decode bytes = .ok (i, []) → s.fetches s.pc bytes →
    s.pc.toNat + bytes.length ≤ 0xFFFF → opcodeOf bytes ∉ s.cart.unhandled →
    step s = andThen (exec i s) afterCpuStep) ∧
  (∀ s : State, s.fault = none → s.halted = false → s.memRead s.pc = .ok 0x10 → s.pc.toNat + 2 ≤ 0xFFFF →
    step s = andThen (exec .stop s) afterCpuStep) ∧
  (∀ (s : State) (f : FaultRecord), s.fault = none → s.halted = false → s.memRead s.pc = .error f →
    (∃ index : Nat, f = .romBounds s.pc index) ∧ step s = .fault (f.stop { s with fault := some f })) ∧
  (∀ s : State, s.fault = none → s.halted = false → s.memRead s.pc = .ok 0xCB → s.pc = 0xFFFF →
    step s = .fault (.pcRange 0x10000 { s with fault := some (.pcRange 0x10000) })) ∧
  (∀ (s : State) (f : FaultRecord), s.fault = none → s.halted = false → s.memRead s.pc = .ok 0xCB → s.pc ≠ 0xFFFF →
    s.memRead (s.pc + 1) = .error f →
    (∃ index : Nat, f = .romBounds (s.pc + 1) index) ∧ step s = .fault (f.stop { s with fault := some f })) ∧
  (∀ (s : State) (i : Instr) (next : Int),
    s.fault = none → s.halted = false → i.wellFormed = true → s.fetches s.pc (opcodeBytes i) →
    s.pc.toNat + (opcodeBytes i).length ≤ 0x10000 → next = s.pc.toNat + (encode i).length → 0xFFFF < next →
    step s = .fault (.pcRange next { s with fault := some (.pcRange next) })) ∧
  (∀ (s : State) (i : Instr) (f : FaultRecord),
    s.fault = none → s.halted = false → i.wellFormed = true → s.fetches s.pc (opcodeBytes i) →
    s.pc.toNat + (encode i).length ≤ 0xFFFF → opcodeOf (encode i) ∉ s.cart.unhandled →
    i ≠ .stop → (opcodeBytes i).length = 1 → 2 ≤ (encode i).length →
    (s.memRead (s.pc + 1) = .error f →
      (∃ index : Nat, f = .romBounds (s.pc + 1) index) ∧ step s = .fault (f.stop { s with fault := some f })) ∧
    (∀ lo : Byte, (encode i).length = 3 → s.memRead (s.pc + 1) = .ok lo → s.memRead (s.pc + 2) = .error f →
      (∃ index : Nat, f = .romBounds (s.pc + 2) index) ∧ step s = .fault (f.stop { s with fault := some f })))

/-- A halted CPU step returns 4 cycles and touches nothing else, and the rest of the system step goes on (R402); a
faulted machine has no step (R1301), which the model shows as a step that stops on the recorded fault again, the
model's choice (log 7). -/
def Obligations.HaltedAndFaultedSteps : Prop :=
  (∀ s : State, s.fault = none → s.halted = true → step s = afterCpuStep { s with stepCycles := 4 }) ∧
  (∀ (s : State) (f : FaultRecord), s.fault = some f → step s = .fault (f.stop s))

/-- An opcode that has a table entry but no handler sets the diagnostic flag, advances PC by its length and costs its
table cycles, and nothing else (R407). HALT never takes this path (R1202): whether or not 0x76 is listed as having no
handler, its step is its meaning and the rest of the system step. That the opcodes without a handler stand in the state
is the model's choice (log 8). -/
def Obligations.UnimplementedPath : Prop :=
  (∀ (s : State) (i : Instr) (e : Entry),
    s.fault = none → s.halted = false → i.wellFormed = true → i ≠ .halt → s.fetches s.pc (opcodeBytes i) →
    (encode i).head? ≠ some 0xCB ∧ opCell ((encode i).headD 0) = .entry e ∨
      (encode i).head? = some 0xCB ∧ cbEntry ((encode i).getD 1 0) = e →
    opcodeOf (encode i) ∈ s.cart.unhandled → s.pc.toNat + e.length ≤ 0xFFFF →
    step s =
      afterCpuStep { s with unimplementedSeen := true, pc := s.pc + BitVec.ofNat 16 e.length, stepCycles := e.cycles }) ∧
  (∀ s : State, s.fault = none → s.halted = false → s.memRead s.pc = .ok 0x76 →
    step s = andThen (exec .halt s) afterCpuStep)

/-! ## 8-bit loads and stores -/

/-- LD r,r', LD r,d8 and LD r,(HL) (R501, R502, R503): the destination register gets the byte, and nothing else
changes but PC and the cycles. -/
def Obligations.RegisterLoads : Prop :=
  ∀ (i : Instr) (s : State) (dst : Reg8),
    (∀ src : Reg8, formOf i = .ldRegReg dst src → s.pc.toNat + 1 ≤ 0xFFFF →
      exec i s =
        .next { s with regs := s.regs.set dst (s.regs.get src), pc := s.pc + 1, stepCycles := 4 }) ∧
    (∀ n : Byte, formOf i = .ldRegImm dst n → s.pc.toNat + 2 ≤ 0xFFFF →
      exec i s = .next { s with regs := s.regs.set dst n, pc := s.pc + 2, stepCycles := 8 }) ∧
    (∀ v : Byte, formOf i = .ldRegMem dst → s.pc.toNat + 1 ≤ 0xFFFF → s.memRead s.regs.hl = .ok v →
      exec i s = .next { s with regs := s.regs.set dst v, pc := s.pc + 1, stepCycles := 8 })

/-- LD (HL),r and LD (HL),d8 (R504, R505). -/
def Obligations.StoresAtHL : Prop :=
  ∀ (i : Instr) (s : State),
    (∀ src : Reg8, formOf i = .ldMemReg src → s.pc.toNat + 1 ≤ 0xFFFF →
      exec i s = .next { s.memWrite s.regs.hl (s.regs.get src) with pc := s.pc + 1, stepCycles := 8 }) ∧
    (∀ n : Byte, formOf i = .ldMemImm n → s.pc.toNat + 2 ≤ 0xFFFF →
      exec i s = .next { s.memWrite s.regs.hl n with pc := s.pc + 2, stepCycles := 12 })

/-- LD A from (BC), (DE), (a16), (C) and (a8) (R506, R507, R510, R512, R514): A gets the byte at the effective
address, and a read past the ROM image faults with PC already advanced. -/
def Obligations.LoadAFromMemory : Prop :=
  ∀ (i : Instr) (s : State) (ea : Ea) (addr : Word),
    formOf i = .ldAFrom ea → s.pc.toNat + ea.length ≤ 0xFFFF →
    addr =
      (match ea with
      | .bc => s.regs.b ++ s.regs.c
      | .de => s.regs.d ++ s.regs.e
      | .abs a16 => a16
      | .highC => 0xFF00 + s.regs.c.setWidth 16
      | .high a8 => 0xFF00 + a8.setWidth 16) →
    (∀ v : Byte, s.memRead addr = .ok v →
      exec i s =
        .next { s with
          regs := { s.regs with a := v }, pc := s.pc + BitVec.ofNat 16 ea.length, stepCycles := ea.cycles }) ∧
    (∀ f : FaultRecord, s.memRead addr = .error f →
      exec i s = raise f { s with pc := s.pc + BitVec.ofNat 16 ea.length })

/-- LD (BC), (DE), (a16), (C) and (a8) from A (R508, R509, R511, R513, R515): the store goes to the effective
address. -/
def Obligations.StoreAToMemory : Prop :=
  ∀ (i : Instr) (s : State) (ea : Ea) (addr : Word),
    formOf i = .ldATo ea → s.pc.toNat + ea.length ≤ 0xFFFF →
    addr =
      (match ea with
      | .bc => s.regs.b ++ s.regs.c
      | .de => s.regs.d ++ s.regs.e
      | .abs a16 => a16
      | .highC => 0xFF00 + s.regs.c.setWidth 16
      | .high a8 => 0xFF00 + a8.setWidth 16) →
    exec i s =
      .next { s.memWrite addr s.regs.a with pc := s.pc + BitVec.ofNat 16 ea.length, stepCycles := ea.cycles }

/-- The post-increment and post-decrement loads and stores (R516 to R519): the access is at the old HL, and HL steps
by one and wraps. -/
def Obligations.LoadStoreStepsHL : Prop :=
  ∀ (i : Instr) (s : State) (dir : HLStep) (hl : Word),
    hl = (match dir with | .inc => s.regs.hl + 1 | .dec => s.regs.hl - 1) → s.pc.toNat + 1 ≤ 0xFFFF →
    (∀ v : Byte, formOf i = .ldAFromHL dir → s.memRead s.regs.hl = .ok v →
      exec i s =
        .next { s with
          regs := { s.regs with a := v, h := hiByte hl, l := loByte hl }, pc := s.pc + 1, stepCycles := 8 }) ∧
    (formOf i = .ldAToHL dir →
      exec i s =
        .next { s.memWrite s.regs.hl s.regs.a with
          regs := { s.regs with h := hiByte hl, l := loByte hl }, pc := s.pc + 1, stepCycles := 8 })

/-- A form that reads the byte at HL past the ROM image raises ROM_BOUNDS before any effect but the advance of PC
(R500, R503, R516, R518, R702, R726, R906, R1000). -/
def Obligations.HLReadFaults : Prop :=
  ∀ (i : Instr) (s : State) (f : FaultRecord),
    (formOf i).readsHL = true → s.pc.toNat + (encode i).length ≤ 0xFFFF → s.memRead s.regs.hl = .error f →
    exec i s = raise f { s with pc := s.pc + BitVec.ofNat 16 (encode i).length }

/-! ## 16-bit loads and the stack -/

/-- LD rr,d16, LD (a16),SP and LD SP,HL (R601, R602, R603): the pair reads the immediate afterwards; SP goes out low
byte first. A pair reads as its two registers, the first one high (R104). -/
def Obligations.PairAndSPLoads : Prop :=
  ∀ (i : Instr) (s : State),
    (∀ (p : Pair) (nn : Word), formOf i = .ldPairImm p nn → s.pc.toNat + 3 ≤ 0xFFFF →
      exec i s = .next { s.setPair p nn with pc := s.pc + 3, stepCycles := 12 } ∧ (s.setPair p nn).pair p = nn) ∧
    (∀ nn : Word, formOf i = .ldMemSP nn → s.pc.toNat + 3 ≤ 0xFFFF →
      exec i s =
        .next { (s.memWrite nn (loByte s.sp)).memWrite (nn + 1) (hiByte s.sp) with
          pc := s.pc + 3, stepCycles := 20 }) ∧
    (formOf i = .ldSPHL → s.pc.toNat + 1 ≤ 0xFFFF →
      exec i s = .next { s with sp := s.regs.h ++ s.regs.l, pc := s.pc + 1, stepCycles := 8 }) ∧
    s.pair .bc = s.regs.b ++ s.regs.c ∧ s.pair .de = s.regs.d ++ s.regs.e ∧ s.pair .hl = s.regs.h ++ s.regs.l ∧
    s.pair .sp = s.sp

/-- PUSH (R604, R600): the high byte at SP-1, the low byte at SP-2, SP two lower; with SP below 2 it raises SP_RANGE
before any write. The pairs are BC, DE, HL and AF, and F is read as the four flags over four zero bits (R103). -/
def Obligations.PushStoresPair : Prop :=
  ∀ (i : Instr) (s : State) (q : StackPair), formOf i = .push q → s.pc.toNat + 1 ≤ 0xFFFF →
    (2 ≤ s.sp.toNat →
      exec i s =
        .next { (s.memWrite (s.sp - 1) (hiByte (s.stackPair q))).memWrite (s.sp - 2) (loByte (s.stackPair q)) with
          sp := s.sp - 2, pc := s.pc + 1, stepCycles := 16 }) ∧
    (s.sp.toNat < 2 → exec i s = raise (.spRange ((s.sp.toNat : Int) - 2)) { s with pc := s.pc + 1 }) ∧
    s.stackPair .bc = s.regs.b ++ s.regs.c ∧ s.stackPair .de = s.regs.d ++ s.regs.e ∧
    s.stackPair .hl = s.regs.h ++ s.regs.l ∧
    s.stackPair .af =
      s.regs.a ++
        (BitVec.ofBool s.flags.z ++ BitVec.ofBool s.flags.n ++ BitVec.ofBool s.flags.h ++ BitVec.ofBool s.flags.c ++ 0#4)

/-- POP (R605, R606, R600): the pair gets the word at SP, AF through F's setter, SP two higher; SP_RANGE before any
read, and ROM_BOUNDS of the low byte before the high byte's. -/
def Obligations.PopLoadsPair : Prop :=
  ∀ (i : Instr) (s : State) (q : StackPair), formOf i = .pop q → s.pc.toNat + 1 ≤ 0xFFFF →
    (s.sp.toNat + 2 ≤ 0xFFFF → ∀ lo hi : Byte, s.memRead s.sp = .ok lo → s.memRead (s.sp + 1) = .ok hi →
      (q = .af →
        exec i s =
          .next { s with
            regs := { s.regs with a := hi }
            flags := { z := lo.getLsbD 7, n := lo.getLsbD 6, h := lo.getLsbD 5, c := lo.getLsbD 4 }
            sp := s.sp + 2, pc := s.pc + 1, stepCycles := 12 }) ∧
      (q ≠ .af →
        exec i s = .next { s.setStackPair q (hi ++ lo) with sp := s.sp + 2, pc := s.pc + 1, stepCycles := 12 } ∧
        (s.setStackPair q (hi ++ lo)).stackPair q = hi ++ lo)) ∧
    (0xFFFF < s.sp.toNat + 2 → exec i s = raise (.spRange ((s.sp.toNat : Int) + 2)) { s with pc := s.pc + 1 }) ∧
    (s.sp.toNat + 2 ≤ 0xFFFF → ∀ f : FaultRecord,
      s.memRead s.sp = .error f ∨ (∃ lo, s.memRead s.sp = .ok lo) ∧ s.memRead (s.sp + 1) = .error f →
      exec i s = raise f { s with pc := s.pc + 1 })

/-- After Push16(v) on plain bytes the two bytes at SP are v, low byte first, and Pop16 gives v back with SP restored
(R600). -/
def Obligations.StackRoundTrip : Prop :=
  ∀ (v : Word) (s : State), 2 ≤ s.sp.toNat → isPlain (s.sp - 1) → isPlain (s.sp - 2) →
    ∃ t : State, push16 v s = .next t ∧ t.sp = s.sp - 2 ∧ t.memRead t.sp = .ok (loByte v) ∧
      t.memRead (t.sp + 1) = .ok (hiByte v) ∧
      ∀ k : Word → State → Result, pop16 t k = k v { t with sp := s.sp }

/-! ## 8-bit arithmetic and logic -/

/-- ADD and ADC, every operand form (R701 to R706 with Add8 of R700): the carry-in counts in fH and fC. -/
def Obligations.AddAndAdc : Prop :=
  ∀ (i : Instr) (s : State) (src : Source) (v : Byte), s.reads src v → s.pc.toNat + src.length ≤ 0xFFFF →
    (formOf i = .alu .add src →
      exec i s =
        .next { s with
          regs := { s.regs with a := s.regs.a + v }
          flags :=
            { z := decide (s.regs.a + v = 0), n := false
              h := decide (0xF < s.regs.a.toNat % 16 + v.toNat % 16), c := decide (0xFF < s.regs.a.toNat + v.toNat) }
          pc := s.pc + BitVec.ofNat 16 src.length, stepCycles := src.cycles }) ∧
    (formOf i = .alu .adc src → ∀ r : Byte, r = s.regs.a + v + (BitVec.ofBool s.flags.c).setWidth 8 →
      exec i s =
        .next { s with
          regs := { s.regs with a := r }
          flags :=
            { z := decide (r = 0), n := false
              h := decide (0xF < s.regs.a.toNat % 16 + v.toNat % 16 + s.flags.c.toNat)
              c := decide (0xFF < s.regs.a.toNat + v.toNat + s.flags.c.toNat) }
          pc := s.pc + BitVec.ofNat 16 src.length, stepCycles := src.cycles })

/-- SUB, SBC and CP, every operand form (R707 to R712, R722 to R724 with Sub8 of R700): fC is the borrow, the
borrow-in counts in fH, and CP keeps A. -/
def Obligations.SubSbcCp : Prop :=
  ∀ (i : Instr) (s : State) (src : Source) (v : Byte), s.reads src v → s.pc.toNat + src.length ≤ 0xFFFF →
    (formOf i = .alu .sub src →
      exec i s =
        .next { s with
          regs := { s.regs with a := s.regs.a - v }
          flags :=
            { z := decide (s.regs.a = v), n := true, h := decide (s.regs.a.toNat % 16 < v.toNat % 16)
              c := decide (s.regs.a.toNat < v.toNat) }
          pc := s.pc + BitVec.ofNat 16 src.length, stepCycles := src.cycles }) ∧
    (formOf i = .alu .sbc src → ∀ r : Byte, r = s.regs.a - v - (BitVec.ofBool s.flags.c).setWidth 8 →
      exec i s =
        .next { s with
          regs := { s.regs with a := r }
          flags :=
            { z := decide (r = 0), n := true, h := decide (s.regs.a.toNat % 16 < v.toNat % 16 + s.flags.c.toNat)
              c := decide (s.regs.a.toNat < v.toNat + s.flags.c.toNat) }
          pc := s.pc + BitVec.ofNat 16 src.length, stepCycles := src.cycles }) ∧
    (formOf i = .alu .cp src →
      exec i s =
        .next { s with
          flags :=
            { z := decide (s.regs.a = v), n := true, h := decide (s.regs.a.toNat % 16 < v.toNat % 16)
              c := decide (s.regs.a.toNat < v.toNat) }
          pc := s.pc + BitVec.ofNat 16 src.length, stepCycles := src.cycles })

/-- AND, XOR and OR, every operand form (R713 to R721): flag lines Z 0 1 0, Z 0 0 0 and Z 0 0 0. -/
def Obligations.AndXorOr : Prop :=
  ∀ (i : Instr) (s : State) (src : Source) (v : Byte), s.reads src v → s.pc.toNat + src.length ≤ 0xFFFF →
    (formOf i = .alu .and src →
      exec i s =
        .next { s with
          regs := { s.regs with a := s.regs.a &&& v }
          flags := { z := decide (s.regs.a &&& v = 0), n := false, h := true, c := false }
          pc := s.pc + BitVec.ofNat 16 src.length, stepCycles := src.cycles }) ∧
    (formOf i = .alu .xor src →
      exec i s =
        .next { s with
          regs := { s.regs with a := s.regs.a ^^^ v }
          flags := { z := decide (s.regs.a = v), n := false, h := false, c := false }
          pc := s.pc + BitVec.ofNat 16 src.length, stepCycles := src.cycles }) ∧
    (formOf i = .alu .or src →
      exec i s =
        .next { s with
          regs := { s.regs with a := s.regs.a ||| v }
          flags := { z := decide (s.regs.a = 0 ∧ v = 0), n := false, h := false, c := false }
          pc := s.pc + BitVec.ofNat 16 src.length, stepCycles := src.cycles })

/-- INC and DEC of a register and of the byte at HL (R725 to R728): fC is kept. -/
def Obligations.IncDecByte : Prop :=
  ∀ (i : Instr) (s : State) (t : Target) (v : Byte), s.targetReads t v → s.pc.toNat + 1 ≤ 0xFFFF →
    (formOf i = .inc8 t →
      exec i s =
        .next { s.writeTarget t (v + 1) with
          flags := { z := decide (v = 0xFF), n := false, h := decide (v.extractLsb' 0 4 = 0xF#4), c := s.flags.c }
          pc := s.pc + 1, stepCycles := if t = .memHL then 12 else 4 }) ∧
    (formOf i = .dec8 t →
      exec i s =
        .next { s.writeTarget t (v - 1) with
          flags := { z := decide (v = 1), n := true, h := decide (v.extractLsb' 0 4 = 0x0#4), c := s.flags.c }
          pc := s.pc + 1, stepCycles := if t = .memHL then 12 else 4 })

/-- DAA (R729), with its encoding: after an add the correction is 0x60 where fC or A > 0x99 and 0x06 where fH or the
low digit is above 9; after a subtract 0x60 where fC and 0x06 where fH, taken away; fH is cleared, fN kept, fC set by
an add only. -/
def Obligations.DecimalAdjust : Prop :=
  ∀ (i : Instr) (s : State) (r : Byte), formOf i = .daa → s.pc.toNat + 1 ≤ 0xFFFF →
    r =
      (if s.flags.n then
        s.regs.a - (if s.flags.c then 0x60 else 0) - (if s.flags.h then 0x06 else 0)
      else
        s.regs.a + (if s.flags.c = true ∨ 0x99 < s.regs.a.toNat then 0x60 else 0) +
          (if s.flags.h = true ∨ 9 < s.regs.a.toNat % 16 then 0x06 else 0)) →
    encode i = [0b00100111#8] ∧
    exec i s =
      .next { s with
        regs := { s.regs with a := r }
        flags :=
          { z := decide (r = 0), n := s.flags.n, h := false
            c := s.flags.c || (!s.flags.n && decide (0x99 < s.regs.a.toNat)) }
        pc := s.pc + 1, stepCycles := 4 }

/-- CPL, SCF and CCF (R730, R731, R732), with their encodings: fZ is kept by all three. -/
def Obligations.ComplementAndCarryFlags : Prop :=
  ∀ (i : Instr) (s : State), s.pc.toNat + 1 ≤ 0xFFFF →
    (formOf i = .cpl →
      encode i = [0b00101111#8] ∧
      exec i s =
        .next { s with
          regs := { s.regs with a := ~~~s.regs.a }, flags := { s.flags with n := true, h := true }
          pc := s.pc + 1, stepCycles := 4 }) ∧
    (formOf i = .scf →
      encode i = [0b00110111#8] ∧
      exec i s =
        .next { s with flags := { s.flags with n := false, h := false, c := true }, pc := s.pc + 1, stepCycles := 4 }) ∧
    (formOf i = .ccf →
      encode i = [0b00111111#8] ∧
      exec i s =
        .next { s with
          flags := { s.flags with n := false, h := false, c := !s.flags.c }, pc := s.pc + 1, stepCycles := 4 })

/-! ## 16-bit arithmetic -/

/-- ADD HL,rr (R801), with its encoding: fH from bit 11, fC from bit 15, fZ kept, the sum wraps. -/
def Obligations.AddToHL : Prop :=
  ∀ (i : Instr) (s : State) (p : Pair) (r : Word), formOf i = .addHL p → s.pc.toNat + 1 ≤ 0xFFFF →
    r = s.regs.hl + s.pair p →
    encode i = [0b00#2 ++ pairCode p ++ 0b1001#4] ∧
    exec i s =
      .next { s with
        regs := { s.regs with h := hiByte r, l := loByte r }
        flags :=
          { z := s.flags.z, n := false
            h := decide (0x0FFF < s.regs.hl.toNat % 0x1000 + (s.pair p).toNat % 0x1000)
            c := decide (0xFFFF < s.regs.hl.toNat + (s.pair p).toNat) }
        pc := s.pc + 1, stepCycles := 8 }

/-- INC rr and DEC rr (R802, R803, R800), with their encodings: BC, DE and HL wrap, SP raises SP_RANGE at its ends,
and no flag changes. -/
def Obligations.IncDecPair : Prop :=
  ∀ (i : Instr) (s : State) (p : Pair), s.pc.toNat + 1 ≤ 0xFFFF →
    (formOf i = .incPair p →
      encode i = [0b00#2 ++ pairCode p ++ 0b0011#4] ∧
      ((p = .sp → s.sp ≠ 0xFFFF) →
        exec i s = .next { s.setPair p (s.pair p + 1) with pc := s.pc + 1, stepCycles := 8 }) ∧
      (p = .sp ∧ s.sp = 0xFFFF → exec i s = raise (.spRange 0x10000) { s with pc := s.pc + 1 })) ∧
    (formOf i = .decPair p →
      encode i = [0b00#2 ++ pairCode p ++ 0b1011#4] ∧
      ((p = .sp → s.sp ≠ 0) →
        exec i s = .next { s.setPair p (s.pair p - 1) with pc := s.pc + 1, stepCycles := 8 }) ∧
      (p = .sp ∧ s.sp = 0 → exec i s = raise (.spRange (-1)) { s with pc := s.pc + 1 })) ∧
    (∀ v : Word, (s.setPair p v).pair p = v)

/-- ADD SP,r8 and LD HL,SP+r8 (R804, R805), with their encodings: the flags come from the unsigned low byte of SP and
the raw byte; the sum into SP is range-checked after the flags are written, the sum into HL wraps. -/
def Obligations.SPRelativeAdds : Prop :=
  ∀ (i : Instr) (s : State) (e : Byte) (f : Flags) (r : Word), s.pc.toNat + 2 ≤ 0xFFFF →
    f =
      { z := false, n := false, h := decide (0x0F < s.sp.toNat % 16 + e.toNat % 16)
        c := decide (0xFF < s.sp.toNat % 256 + e.toNat) } →
    r = s.sp + e.signExtend 16 →
    (formOf i = .addSP e →
      encode i = [0b11101000#8, e] ∧
      (0 ≤ (s.sp.toNat : Int) + e.toInt ∧ (s.sp.toNat : Int) + e.toInt ≤ 0xFFFF →
        exec i s = .next { s with sp := r, flags := f, pc := s.pc + 2, stepCycles := 16 }) ∧
      ((s.sp.toNat : Int) + e.toInt < 0 ∨ 0xFFFF < (s.sp.toNat : Int) + e.toInt →
        exec i s = raise (.spRange ((s.sp.toNat : Int) + e.toInt)) { s with flags := f, pc := s.pc + 2 })) ∧
    (formOf i = .ldHLSP e →
      encode i = [0b11111000#8, e] ∧
      exec i s =
        .next { s with
          regs := { s.regs with h := hiByte r, l := loByte r }, flags := f, pc := s.pc + 2, stepCycles := 12 })

/-! ## Rotates, shifts and bits -/

/-- RLCA, RRCA, RLA and RRA (R901 to R904 with Rot of R900): fZ is always cleared. -/
def Obligations.AccumulatorRotates : Prop :=
  ∀ (i : Instr) (s : State) (op : RotOp), formOf i = .rotA op → s.pc.toNat + 1 ≤ 0xFFFF →
    op ∈ [RotOp.rlc, .rrc, .rl, .rr] ∧
    exec i s =
      .next { s with
        regs := { s.regs with a := rotResult op s.regs.a s.flags.c }
        flags := { z := false, n := false, h := false, c := rotCarry op s.regs.a }
        pc := s.pc + 1, stepCycles := 4 }

/-- The prefix-space rotates, shifts and SWAP, on a register and on the byte at HL (R905 to R920 with Rot of R900): fZ
from the result, register A included. -/
def Obligations.PrefixRotatesAndShifts : Prop :=
  ∀ (i : Instr) (s : State) (op : RotOp) (t : Target) (v : Byte), formOf i = .rot op t → s.targetReads t v →
    s.pc.toNat + 2 ≤ 0xFFFF →
    exec i s =
      .next { s.writeTarget t (rotResult op v s.flags.c) with
        flags := { z := decide (rotResult op v s.flags.c = 0), n := false, h := false, c := rotCarry op v }
        pc := s.pc + 2, stepCycles := if t = .memHL then 16 else 8 }

/-- BIT, RES and SET, on a register and on the byte at HL (R1001 to R1006), with their encodings: BIT writes fZ, fN and
fH only; RES and SET write one bit and no flag. -/
def Obligations.BitResSet : Prop :=
  ∀ (i : Instr) (s : State) (b : Fin 8) (t : Target) (v : Byte), s.targetReads t v → s.pc.toNat + 2 ≤ 0xFFFF →
    (formOf i = .bit b t →
      encode i = [0xCB, 0b01#2 ++ threeBits b ++ targetCode t] ∧
      exec i s =
        .next { s with
          flags := { z := !v.getLsbD b.val, n := false, h := true, c := s.flags.c }
          pc := s.pc + 2, stepCycles := if t = .memHL then 12 else 8 }) ∧
    (formOf i = .res b t →
      encode i = [0xCB, 0b10#2 ++ threeBits b ++ targetCode t] ∧
      exec i s =
        .next { s.writeTarget t (v &&& ~~~(BitVec.twoPow 8 b.val)) with
          pc := s.pc + 2, stepCycles := if t = .memHL then 16 else 8 }) ∧
    (formOf i = .set b t →
      encode i = [0xCB, 0b11#2 ++ threeBits b ++ targetCode t] ∧
      exec i s =
        .next { s.writeTarget t (v ||| BitVec.twoPow 8 b.val) with
          pc := s.pc + 2, stepCycles := if t = .memHL then 16 else 8 })

/-! ## Control transfer -/

/-- JP a16, JP cc,a16 and JP HL (R1101, R1102, R1103, R1100): PC ends at the target, or at PCnext where the condition
fails. -/
def Obligations.AbsoluteJumps : Prop :=
  ∀ (i : Instr) (s : State),
    (∀ nn : Word, formOf i = .jp nn → s.pc.toNat + 3 ≤ 0xFFFF →
      exec i s = .next { s with pc := nn, stepCycles := 16 }) ∧
    (∀ (cc : Cond) (nn : Word), formOf i = .jpCond cc nn → s.pc.toNat + 3 ≤ 0xFFFF →
      exec i s =
        .next (if s.flags.holds cc then { s with pc := nn, stepCycles := 16 }
          else { s with pc := s.pc + 3, stepCycles := 12 })) ∧
    (formOf i = .jpHL → s.pc.toNat + 1 ≤ 0xFFFF →
      exec i s = .next { s with pc := s.regs.h ++ s.regs.l, stepCycles := 4 })

/-- JR r8 and JR cc,r8 (R1104, R1105, R1100): the target is PCnext plus the signed displacement, and one outside 0 to
0xFFFF raises PC_RANGE, only when taken. -/
def Obligations.RelativeJumps : Prop :=
  ∀ (i : Instr) (s : State) (e : Byte) (target : Int),
    target = (s.pc.toNat : Int) + 2 + e.toInt → s.pc.toNat + 2 ≤ 0xFFFF →
    (formOf i = .jr e ∨ (∃ cc, formOf i = .jrCond cc e ∧ s.flags.holds cc = true) →
      (0 ≤ target ∧ target ≤ 0xFFFF →
        exec i s = .next { s with pc := s.pc + 2 + e.signExtend 16, stepCycles := 12 }) ∧
      (target < 0 ∨ 0xFFFF < target → exec i s = raise (.pcRange target) { s with pc := s.pc + 2 })) ∧
    (∀ cc : Cond, formOf i = .jrCond cc e → s.flags.holds cc = false →
      exec i s = .next { s with pc := s.pc + 2, stepCycles := 8 })

/-- CALL a16, CALL cc,a16 and RST t (R1106, R1107, R1111, R600): PCnext is pushed and PC is the target, t * 8 for RST;
SP_RANGE before anything is pushed, only when taken; not taken, nothing but the advance. -/
def Obligations.CallsAndRestarts : Prop :=
  (∀ (i : Instr) (s : State) (nn back : Word), back = s.pc + 3 → s.pc.toNat + 3 ≤ 0xFFFF →
    (formOf i = .call nn ∨ (∃ cc, formOf i = .callCond cc nn ∧ s.flags.holds cc = true) →
      (2 ≤ s.sp.toNat →
        exec i s =
          .next { (s.memWrite (s.sp - 1) (hiByte back)).memWrite (s.sp - 2) (loByte back) with
            sp := s.sp - 2, pc := nn, stepCycles := 24 }) ∧
      (s.sp.toNat < 2 → exec i s = raise (.spRange ((s.sp.toNat : Int) - 2)) { s with pc := back })) ∧
    (∀ cc : Cond, formOf i = .callCond cc nn → s.flags.holds cc = false →
      exec i s = .next { s with pc := back, stepCycles := 12 })) ∧
  (∀ (i : Instr) (s : State) (t : Fin 8) (back : Word), formOf i = .rst t → back = s.pc + 1 →
    s.pc.toNat + 1 ≤ 0xFFFF →
    (2 ≤ s.sp.toNat →
      exec i s =
        .next { (s.memWrite (s.sp - 1) (hiByte back)).memWrite (s.sp - 2) (loByte back) with
          sp := s.sp - 2, pc := BitVec.ofNat 16 (t.val * 8), stepCycles := 16 }) ∧
    (s.sp.toNat < 2 → exec i s = raise (.spRange ((s.sp.toNat : Int) - 2)) { s with pc := back }))

/-- RET, RET cc and RETI (R1108, R1109, R1110, R600): PC is the word at SP and SP two higher; RETI also sets IME; the
faults of the pop leave PC at PCnext and IME as it was; RET cc not taken costs 8. -/
def Obligations.Returns : Prop :=
  ∀ (i : Instr) (s : State), s.pc.toNat + 1 ≤ 0xFFFF →
    (s.sp.toNat + 2 ≤ 0xFFFF → ∀ lo hi : Byte, s.memRead s.sp = .ok lo → s.memRead (s.sp + 1) = .ok hi →
      (formOf i = .ret → exec i s = .next { s with pc := hi ++ lo, sp := s.sp + 2, stepCycles := 16 }) ∧
      (∀ cc : Cond, formOf i = .retCond cc → s.flags.holds cc = true →
        exec i s = .next { s with pc := hi ++ lo, sp := s.sp + 2, stepCycles := 20 }) ∧
      (formOf i = .reti →
        exec i s = .next { s with pc := hi ++ lo, sp := s.sp + 2, ime := true, stepCycles := 16 })) ∧
    (formOf i = .ret ∨ formOf i = .reti ∨ (∃ cc, formOf i = .retCond cc ∧ s.flags.holds cc = true) →
      (0xFFFF < s.sp.toNat + 2 → exec i s = raise (.spRange ((s.sp.toNat : Int) + 2)) { s with pc := s.pc + 1 }) ∧
      (s.sp.toNat + 2 ≤ 0xFFFF → ∀ f : FaultRecord,
        s.memRead s.sp = .error f ∨ (∃ lo, s.memRead s.sp = .ok lo) ∧ s.memRead (s.sp + 1) = .error f →
        exec i s = raise f { s with pc := s.pc + 1 })) ∧
    (∀ cc : Cond, formOf i = .retCond cc → s.flags.holds cc = false →
      exec i s = .next { s with pc := s.pc + 1, stepCycles := 8 })

/-- Executing CALL and then RET on a plain stack comes back to the instruction after the CALL with SP, the registers
and the flags as before (R600, R1106, R1108; the spec's own inference in R600). -/
def Obligations.CallThenReturn : Prop :=
  ∀ (i j : Instr) (s : State) (nn : Word),
    formOf i = .call nn → formOf j = .ret → s.pc.toNat + 3 ≤ 0xFFFF → nn ≠ 0xFFFF → 2 ≤ s.sp.toNat →
    isPlain (s.sp - 1) → isPlain (s.sp - 2) →
    ∃ t u : State, exec i s = .next t ∧ t.pc = nn ∧ exec j t = .next u ∧ u.pc = s.pc + 3 ∧ u.sp = s.sp ∧
      u.regs = s.regs ∧ u.flags = s.flags

/-! ## CPU control -/

/-- NOP, STOP, DI and EI (R1201, R1203, R1204, R1205), with their encodings: the advance; STOP's diagnostic flag and
two-byte length; IME cleared or set at once. That STOP's second byte is encoded 0x00, which the spec only calls
conventional, is the model's choice (log 15). -/
def Obligations.NopStopDiEi : Prop :=
  ∀ (i : Instr) (s : State),
    (formOf i = .nop → s.pc.toNat + 1 ≤ 0xFFFF →
      encode i = [0b00000000#8] ∧ exec i s = .next { s with pc := s.pc + 1, stepCycles := 4 }) ∧
    (formOf i = .stop → s.pc.toNat + 2 ≤ 0xFFFF →
      encode i = [0b00010000#8, 0x00] ∧
      exec i s = .next { s with unimplementedSeen := true, pc := s.pc + 2, stepCycles := 4 }) ∧
    (formOf i = .di → s.pc.toNat + 1 ≤ 0xFFFF →
      encode i = [0b11110011#8] ∧ exec i s = .next { s with ime := false, pc := s.pc + 1, stepCycles := 4 }) ∧
    (formOf i = .ei → s.pc.toNat + 1 ≤ 0xFFFF →
      encode i = [0b11111011#8] ∧ exec i s = .next { s with ime := true, pc := s.pc + 1, stepCycles := 4 })

/-- HALT (R1202): with IME = 1 the CPU halts after the advance; with IME = 0 the next instruction is decoded for its
length and skipped, and the faults of that decoding are raised. -/
def Obligations.HaltWaitsOrSkips : Prop :=
  ∀ (i : Instr) (s : State), formOf i = .halt → s.pc.toNat + 1 ≤ 0xFFFF →
    (s.ime = true → exec i s = .next { s with halted := true, pc := s.pc + 1, stepCycles := 4 }) ∧
    (s.ime = false → ∀ j : Instr, j.wellFormed = true → s.fetches (s.pc + 1) (opcodeBytes j) →
      (s.pc.toNat + 1 + (encode j).length ≤ 0xFFFF →
        exec i s = .next { s with pc := s.pc + 1 + BitVec.ofNat 16 (encode j).length, stepCycles := 4 }) ∧
      (0xFFFF < s.pc.toNat + 1 + (encode j).length → s.pc.toNat + (opcodeBytes j).length ≤ 0xFFFF →
        exec i s =
          raise (.pcRange ((s.pc.toNat : Int) + 1 + (encode j).length)) { s with pc := s.pc + 1 })) ∧
    (s.ime = false → s.pc.toNat + 1 = 0xFFFF → s.memRead (s.pc + 1) = .ok 0xCB →
      exec i s = raise (.pcRange 0x10000) { s with pc := s.pc + 1 }) ∧
    (s.ime = false → ∀ (j : Instr) (b : Byte), j.wellFormed = false → encode j = [b] → s.memRead (s.pc + 1) = .ok b →
      exec i s = raise (.undefinedOpcode b (s.pc + 1)) { s with pc := s.pc + 1 }) ∧
    (s.ime = false → ∀ f : FaultRecord,
      s.memRead (s.pc + 1) = .error f ∨
        s.pc.toNat + 2 ≤ 0xFFFF ∧ s.memRead (s.pc + 1) = .ok 0xCB ∧ s.memRead (s.pc + 2) = .error f →
      exec i s = raise f { s with pc := s.pc + 1 })

/-! ## Rules of every instruction -/

/-- An instruction whose PCnext is past 0xFFFF raises PC_RANGE before any effect, even a jump (R406). That the meaning
itself makes this check is the model's choice (log 9). -/
def Obligations.SequentialAdvanceFaults : Prop :=
  ∀ (i : Instr) (s : State), i.wellFormed = true → 0xFFFF < s.pc.toNat + (encode i).length →
    exec i s = .fault (.pcRange (s.pc.toNat + (encode i).length)
      { s with fault := some (.pcRange (s.pc.toNat + (encode i).length)) })

/-- What an instruction costs is the `cycles` of its table entry or, where the entry has one, possibly its
`cycles_not_taken`; no instruction costs more than 24 (R409; the bound is the spec's own inference in R410). -/
def Obligations.CyclesFromTable : Prop :=
  ∀ (i : Instr) (s t : State), exec i s = .next t →
    t.stepCycles ≤ 24 ∧
    (∀ (b : Byte) (rest : List Byte) (e : Entry), encode i = b :: rest → opCell b = .entry e →
      t.stepCycles = e.cycles ∨ some t.stepCycles = e.cyclesNotTaken) ∧
    (∀ b : Byte, encode i = [0xCB, b] → t.stepCycles = (cbEntry b).cycles)

/-- No instruction touches the PPU's state, the cycle count of the frame, the cartridge, the fault record or the
host's inputs; only DI, EI and RETI write IME, only HALT sets halted, and only STOP sets the diagnostic flag (R109,
R110, R111, R1200). -/
def Obligations.ControlAndDeviceFrame : Prop :=
  ∀ (i : Instr) (s t : State), exec i s = .next t →
    t.ppu = s.ppu ∧ t.frameCycles = s.frameCycles ∧ t.cart = s.cart ∧ t.fault = s.fault ∧ t.extReq = s.extReq ∧
    (t.ime ≠ s.ime → formOf i ∈ [Form.di, .ei, .reti]) ∧
    (t.halted ≠ s.halted → formOf i = .halt ∧ s.ime = true ∧ t.halted = true) ∧
    (t.unimplementedSeen ≠ s.unimplementedSeen → formOf i = .stop ∧ t.unimplementedSeen = true)

/-- A flag that the rule's flags line marks `-` keeps its value, for every instruction (R15, R102). -/
def Obligations.FlagFrame : Prop :=
  ∀ (i : Instr) (s t : State), exec i s = .next t →
    ((formOf i).writesFlag.z = false → t.flags.z = s.flags.z) ∧
    ((formOf i).writesFlag.n = false → t.flags.n = s.flags.n) ∧
    ((formOf i).writesFlag.h = false → t.flags.h = s.flags.h) ∧
    ((formOf i).writesFlag.c = false → t.flags.c = s.flags.c)

/-- A register or SP that the rule's pseudocode does not assign keeps its value, for every instruction (R101, R106). -/
def Obligations.RegisterFrame : Prop :=
  ∀ (i : Instr) (s t : State), exec i s = .next t →
    (∀ r : Reg8, (formOf i).writesReg r = false → t.regs.get r = s.regs.get r) ∧
    ((formOf i).writesSP = false → t.sp = s.sp)

/-- Every byte but those an instruction stores to reads as before (R207, R221, R250). A form that stores nothing
leaves all of memory and the bank controller. A store at or above 0x8000, but to the DMA trigger, leaves every other
address. A store below 0x8000 leaves every bus byte, and a store to the DMA trigger every bus byte but its own and
0xFE00 to 0xFE8B. A store leaves every external-RAM byte but the one at its index, and the bank registers unless it is
below 0x8000. -/
def Obligations.MemoryFrame : Prop :=
  ∀ (i : Instr) (s t : State) (stored : List Word), exec i s = .next t → stored = (formOf i).storedAt s →
    (stored = [] → t.bus = s.bus ∧ t.bank = s.bank ∧ ∀ a : Word, t.memRead a = s.memRead a) ∧
    ((∀ x ∈ stored, 0x8000 ≤ x.toNat ∧ x ≠ 0xFF46) → ∀ a : Word, a ∉ stored → t.memRead a = s.memRead a) ∧
    (∀ k : Nat,
      (∀ x ∈ stored, 0x8000 ≤ x.toNat → x.toNat ≠ k ∧ (x = 0xFF46 → k < 0xFE00 ∨ 0xFE8C ≤ k)) →
      t.busRead k = s.busRead k) ∧
    (∀ k : Nat,
      (∀ x ∈ stored, 0xA000 ≤ x.toNat → x.toNat < 0xC000 → s.extRamIndex x.toNat ≠ k) →
      Store.read Config.ramUnlisted t.bank.ram k = Store.read Config.ramUnlisted s.bank.ram k) ∧
    ((∀ x ∈ stored, 0x8000 ≤ x.toNat) → t.bank = { s.bank with ram := t.bank.ram })

/-! ## Memory -/

/-- MemRead decodes the address (R220, R234, R235, R236): ROM bank 0, the switched ROM bank, external RAM or 0xFF, the
bus; only a ROM index at or past romLen faults. -/
def Obligations.MemReadWindows : Prop :=
  ∀ (s : State) (a : Word) (k : Nat),
    (a.toNat < 0x4000 →
      s.memRead a =
        if a.toNat < s.cart.romLen then .ok (s.cart.byte a.toNat) else .error (.romBounds a a.toNat)) ∧
    (0x4000 ≤ a.toNat → a.toNat < 0x8000 → k = s.bank.romBank.toNat * 0x4000 + (a.toNat - 0x4000) →
      s.memRead a = if k < s.cart.romLen then .ok (s.cart.byte k) else .error (.romBounds a k)) ∧
    (0xA000 ≤ a.toNat → a.toNat < 0xC000 → k = s.bank.ramBank.toNat * 0x2000 + (a.toNat - 0xA000) →
      s.memRead a =
        .ok (if s.bank.ramEnabled = true ∧ k < s.cart.ramSize then Store.read Config.ramUnlisted s.bank.ram k
          else 0xFF)) ∧
    ((0x8000 ≤ a.toNat ∧ a.toNat < 0xA000) ∨ 0xC000 ≤ a.toNat → s.memRead a = .ok (s.busRead a.toNat))

/-- The four bank-controller windows of MemWrite (R221, R230, R231, R232, R233): each write changes only the register
it names; the five low bits of the ROM bank are never 0; entering ROM-banking mode zeroes the RAM bank. -/
def Obligations.BankRegisterWrites : Prop :=
  ∀ (s : State) (a : Word) (v : Byte),
    (a.toNat < 0x2000 →
      s.memWrite a v = { s with bank := { s.bank with ramEnabled := decide (v.toNat % 16 = 0xA) } }) ∧
    (0x2000 ≤ a.toNat → a.toNat < 0x4000 →
      ∃ n : BitVec 7, s.memWrite a v = { s with bank := { s.bank with romBank := n } } ∧
        n.toNat =
          s.bank.romBank.toNat / 32 * 32 + (if v.toNat % 32 = 0 then 1 else v.toNat % 32)) ∧
    (0x4000 ≤ a.toNat → a.toNat < 0x6000 → s.bank.bankingMode = .romBanking →
      ∃ n : BitVec 7, s.memWrite a v = { s with bank := { s.bank with romBank := n } } ∧
        n.toNat = s.bank.romBank.toNat % 32 + v.toNat % 4 * 32) ∧
    (0x4000 ≤ a.toNat → a.toNat < 0x6000 → s.bank.bankingMode = .ramBanking →
      ∃ n : BitVec 2, s.memWrite a v = { s with bank := { s.bank with ramBank := n } } ∧ n.toNat = v.toNat % 4) ∧
    (0x6000 ≤ a.toNat → a.toNat < 0x8000 →
      s.memWrite a v =
        { s with
          bank :=
            if v.toNat % 2 = 0 then { s.bank with bankingMode := .romBanking, ramBank := 0 }
            else { s.bank with bankingMode := .ramBanking } })

/-- MemWrite above 0x8000, the DMA trigger apart (R202, R203, R204, R221, R234): a plain byte is stored and reads
back, STAT keeps its phase bits, LY keeps its value, external RAM takes the byte only when enabled and inside the
buffer; nothing else changes. -/
def Obligations.MemWriteStores : Prop :=
  ∀ (s : State) (a : Word) (v : Byte),
    (isPlain a →
      (s.memWrite a v).memRead a = .ok v ∧ (s.memWrite a v) = { s with bus := (s.memWrite a v).bus } ∧
      ∀ k : Nat, k ≠ a.toNat → (s.memWrite a v).busRead k = s.busRead k) ∧
    (a = 0xFF41 →
      (s.memWrite a v).busRead 0xFF41 = v.extractLsb' 2 6 ++ (s.busRead 0xFF41).extractLsb' 0 2 ∧
      (s.memWrite a v) = { s with bus := (s.memWrite a v).bus } ∧
      ∀ k : Nat, k ≠ 0xFF41 → (s.memWrite a v).busRead k = s.busRead k) ∧
    (a = 0xFF44 → s.memWrite a v = s) ∧
    (0xA000 ≤ a.toNat → a.toNat < 0xC000 → ∀ k : Nat, k = s.bank.ramBank.toNat * 0x2000 + (a.toNat - 0xA000) →
      (s.bank.ramEnabled = true → k < s.cart.ramSize →
        (s.memWrite a v).memRead a = .ok v ∧
        s.memWrite a v = { s with bank := { s.bank with ram := (s.memWrite a v).bank.ram } } ∧
        ∀ m : Nat, m ≠ k →
          Store.read Config.ramUnlisted (s.memWrite a v).bank.ram m =
            Store.read Config.ramUnlisted s.bank.ram m) ∧
      (s.bank.ramEnabled = false ∨ s.cart.ramSize ≤ k → s.memWrite a v = s))

/-- A CPU write to the DMA trigger (R205): the page is stored, the 0x8C bytes from page * 256 of the raw bus, as they
are once the page is stored, are copied to 0xFE00, and nothing else changes. -/
def Obligations.DmaCopies : Prop :=
  ∀ (s t : State) (v : Byte), t = s.memWrite 0xFF46 v →
    t = { s with bus := t.bus } ∧ t.busRead 0xFF46 = v ∧
    (∀ k : Nat, k < 0x8C →
      t.busRead (0xFE00 + k) =
        if v.toNat * 256 + k = 0xFF46 then v else s.busRead (v.toNat * 256 + k)) ∧
    (∀ a : Nat, a ≠ 0xFF46 → a < 0xFE00 ∨ 0xFE8C ≤ a → t.busRead a = s.busRead a)

/-! ## Interrupts -/

/-- Dispatch serves the lowest request that is raised and enabled, through its vector 0x40 + 8k, and nothing where
there is none, whatever IF bits 7 to 5 hold (R1311, R1312, R1321, R1322). -/
def Obligations.DispatchPriority : Prop :=
  ∀ s : State,
    (∀ k : Fin 5, s.pending k → (∀ j : Fin 5, j < k → ¬s.pending j) →
      icDispatch s = takeInterrupt (BitVec.ofNat 16 (0x40 + 8 * k.val)) s) ∧
    ((∀ k : Fin 5, ¬s.pending k) → icDispatch s = .next s)

/-- Delivery (R1320): nothing with IME = 0; else halted and IME are cleared, PC is pushed and PC is the vector, at no
cost in cycles; with SP below 2 the push faults with halted and IME already cleared. -/
def Obligations.InterruptDelivery : Prop :=
  ∀ (s : State) (vector : Word),
    (s.ime = false → takeInterrupt vector s = .next s) ∧
    (s.ime = true → 2 ≤ s.sp.toNat →
      takeInterrupt vector s =
        .next { (s.memWrite (s.sp - 1) (hiByte s.pc)).memWrite (s.sp - 2) (loByte s.pc) with
          halted := false, ime := false, sp := s.sp - 2, pc := vector }) ∧
    (s.ime = true → s.sp.toNat < 2 →
      takeInterrupt vector s =
        raise (.spRange ((s.sp.toNat : Int) - 2)) { s with halted := false, ime := false })

/-- At the end of every step that answers a next state IF is zero, and the cycle count has grown by the step's cycles,
at most 24, less one frame when the frame is complete, the overshoot kept (R1313, R410, R400; the bound 24 and IF zero
between steps are the spec's own inferences in R410 and R1313). -/
def Obligations.EndOfStepBookkeeping : Prop :=
  ∀ s t : State, step s = .next t →
    t.busRead 0xFF0F = 0 ∧ t.stepCycles ≤ 24 ∧
    t.frameCycles =
      if 70224 ≤ s.frameCycles + t.stepCycles then s.frameCycles + t.stepCycles - 70224
      else s.frameCycles + t.stepCycles

/-- The host's requests of a step are or-ed into IF, one input is used up, and nothing else changes; with no input
left there is no request (R1311, R1315). That the inputs of the coming steps stand in the state as a queue is the
model's choice (log 5). -/
def Obligations.ExternalRequestsFire : Prop :=
  ∀ (s : State),
    (s.extReq = [] → externalRequests s = s) ∧
    (∀ (req : BitVec 5) (rest : List (BitVec 5)), s.extReq = req :: rest →
      externalRequests s = { s with extReq := rest, bus := (externalRequests s).bus } ∧
      (externalRequests s).busRead 0xFF0F = s.busRead 0xFF0F ||| req.setWidth 8 ∧
      ∀ a : Nat, a ≠ 0xFF0F → (externalRequests s).busRead a = s.busRead a)

/-- A halted CPU leaves the halted state only by the delivery of an interrupt, in the step whose end finds it running:
IME was 1 and is 0, PC is a vector and SP is two lower (R110, R1320; the spec's own inference in R1325). -/
def Obligations.HaltEndsOnlyByDelivery : Prop :=
  ∀ s t : State, step s = .next t → s.halted = true → t.halted = false →
    s.ime = true ∧ t.ime = false ∧ t.sp = s.sp - 2 ∧ t.regs = s.regs ∧ t.flags = s.flags ∧
    ∃ k : Fin 5, t.pc = BitVec.ofNat 16 (0x40 + 8 * k.val)

/-! ## The PPU -/

/-- One PPU step at cumulative count `cum` (R1340 to R1344): `line` is cum / 456 clamped to 153; STAT bits 1 to 0 are
the phase of the position in the line and bits 7 to 2 are kept; LY advances by one modulo 154 exactly when the line
changed. -/
def Obligations.PpuLineAndPhase : Prop :=
  ∀ (cum ln pos : Nat) (s t : State), ln = min (cum / 456) 153 → pos = cum - ln * 456 → t = ppuStep cum s →
    t.ppu.line = ln ∧
    t.busRead 0xFF41 =
      (s.busRead 0xFF41).extractLsb' 2 6 ++
        (if 144 ≤ ln then 1#2 else if pos < 76 then 2#2 else if pos < 228 then 3#2 else 0#2) ∧
    (t.busRead 0xFF44).toNat =
      if ln = s.ppu.line then (s.busRead 0xFF44).toNat else ((s.busRead 0xFF44).toNat + 1) % 154

/-- The requests and the buffers of one PPU step (R1340, R1342, R1345, R1347): IF gains bit 1 exactly when a line
starts with LY = LYC, and bit 0 exactly at the V-blank edge; at the edge, and only there, the two buffers are
exchanged; in H-blank the line is rendered once. No other bus byte and no other state changes. -/
def Obligations.PpuRequestsAndBuffers : Prop :=
  ∀ (cum ln : Nat) (s t : State) (starts edge draws : Bool),
    ln = min (cum / 456) 153 → t = ppuStep cum s → starts = decide (ln ≠ s.ppu.line) →
    edge = (decide (65664 ≤ cum) && !s.ppu.vblankFired) →
    draws = (decide (ln < 144 ∧ 228 ≤ cum - ln * 456) && (starts || !s.ppu.rendered)) →
    t.busRead 0xFF0F =
      (s.busRead 0xFF0F ||| (if starts = true ∧ t.busRead 0xFF44 = s.busRead 0xFF45 then 2 else 0)) |||
        (if edge then 1 else 0) ∧
    (∀ a : Nat, a ∉ [0xFF0F, 0xFF41, 0xFF44] → t.busRead a = s.busRead a) ∧
    t.ppu.vblankFired = decide (65664 ≤ cum) ∧
    t.ppu.rendered = (draws || (!starts && s.ppu.rendered)) ∧
    (edge = true → t.ppu.fbActive = s.ppu.fbPresented ∧ t.ppu.fbPresented = s.ppu.fbActive) ∧
    (edge = false → t.ppu.fbPresented = s.ppu.fbPresented) ∧
    (edge = false → draws = false → t.ppu.fbActive = s.ppu.fbActive) ∧
    (draws = true → ∀ k : Nat,
      Store.read Config.shadeUnlisted t.ppu.fbActive k =
        if k / 256 = (t.busRead 0xFF44).toNat ∧ k % 256 < 160 then
          pixel t (t.busRead 0xFF44).toNat (k % 256)
        else Store.read Config.shadeUnlisted s.ppu.fbActive k) ∧
    t = { s with bus := t.bus, ppu := t.ppu }

/-- The shade of a background or window pixel (R1346): with the tile address, the two bit planes and the palette entry
written out. -/
def Obligations.PixelShade : Prop :=
  ∀ (s : State) (ly x px py map tile ci : Nat),
    (if (s.busRead 0xFF40).getLsbD 5 = true ∧ (s.busRead 0xFF4A).toNat ≤ ly ∧ (s.busRead 0xFF4B).toNat ≤ x + 7 then
      px = x + 7 - (s.busRead 0xFF4B).toNat ∧ py = ly - (s.busRead 0xFF4A).toNat ∧
        map = (if (s.busRead 0xFF40).getLsbD 6 then 0x9C00 else 0x9800)
    else
      px = (x + (s.busRead 0xFF43).toNat) % 256 ∧ py = (ly + (s.busRead 0xFF42).toNat) % 256 ∧
        map = (if (s.busRead 0xFF40).getLsbD 3 then 0x9C00 else 0x9800)) →
    (tile =
      if (s.busRead 0xFF40).getLsbD 4 then 0x8000 + (s.busRead (map + py / 8 * 32 + px / 8)).toNat * 16
      else if (s.busRead (map + py / 8 * 32 + px / 8)).toNat < 128 then
        0x9000 + (s.busRead (map + py / 8 * 32 + px / 8)).toNat * 16
      else 0x8000 + (s.busRead (map + py / 8 * 32 + px / 8)).toNat * 16) →
    ci =
      2 * ((s.busRead (tile + py % 8 * 2 + 1)).toNat.testBit (7 - px % 8)).toNat +
        ((s.busRead (tile + py % 8 * 2)).toNat.testBit (7 - px % 8)).toNat →
    (pixel s ly x).toNat = (s.busRead 0xFF47).toNat / 4 ^ ci % 4

/-! ## Invariants and reset -/

/-- Every step keeps the invariant: every storage in its canonical form, the ROM bank's low five bits not 0 and the
RAM bank 0 in ROM-banking mode, halted only with IME, IF zero, and the PPU in step with the cycle count (R125, R231,
R233, R1202, R1313, R1342 to R1347, several of them the spec's own inferences). The canonical form of the storages is
the model's own. -/
def Obligations.InvariantPreserved : Prop := ∀ s t : State, s.Inv → step s = .next t → t.Inv

/-- The invariant holds at reset (R140, R141, R1501). The contents of the storages at reset are the model's choice
(logs 1 to 4). -/
def Obligations.InvariantAtReset : Prop := State.reset.Inv

/-- A session starts exactly from an image that passes the load-time checks, with the registers it was given, the
fixed reset values of the spec and the invariant (R239, R1303, R1500, R1501, R140, R141, R125, R130). The queue of
host inputs and the canonical form are the model's own (logs 1 and 5). -/
def Obligations.SessionStart : Prop :=
  ∀ (cart : Cart) (busInit ramInit : Memory) (fbActive fbPresented : Store 2) (r : ResetRegs)
    (extReq : List (BitVec 5)),
    ((∃ s, startSession cart busInit ramInit fbActive fbPresented r extReq = .ok s) ↔
      0x150 ≤ cart.romLen ∧ cart.byte 0x147 ∈ [0x00, 0x01, 0x02, (0x03 : Byte)] ∧
        cart.byte 0x149 ∈ [0x00, 0x01, 0x02, 0x03, 0x04, (0x05 : Byte)]) ∧
    (∀ s : State, startSession cart busInit ramInit fbActive fbPresented r extReq = .ok s →
      s.regs = r.regs ∧ s.flags = r.flags ∧ s.sp = r.sp ∧ s.pc = r.pc ∧ s.ime = false ∧ s.halted = false ∧
      s.unimplementedSeen = false ∧ s.fault = none ∧ s.busRead 0xFF0F = 0 ∧ s.busRead 0xFFFF = 0 ∧
      s.busRead 0xFF44 = 0 ∧ (s.busRead 0xFF41).extractLsb' 0 2 = 2#2 ∧ s.bank.romBank = 1 ∧ s.bank.ramBank = 0 ∧
      s.bank.ramEnabled = false ∧ s.bank.bankingMode = .romBanking ∧ s.ppu.line = 0 ∧ s.ppu.rendered = false ∧
      s.ppu.vblankFired = false ∧ s.frameCycles = 0 ∧ s.Inv)

/-- The reset state has the values the spec states (R140, R141, R125, R130). -/
def Obligations.ResetValues : Prop :=
  State.reset.regs = { a := 0x01, b := 0x00, c := 0x13, d := 0x00, e := 0xD8, h := 0x01, l := 0x4D } ∧
  State.reset.flags.toByte = 0xB0 ∧ State.reset.sp = 0xFFFE ∧ State.reset.pc = 0x0100 ∧ State.reset.ime = false ∧
  State.reset.halted = false ∧ State.reset.unimplementedSeen = false ∧ State.reset.fault = none ∧
  State.reset.busRead 0xFF0F = 0 ∧ State.reset.busRead 0xFFFF = 0 ∧ State.reset.busRead 0xFF44 = 0 ∧
  (State.reset.busRead 0xFF41).extractLsb' 0 2 = 2#2 ∧ State.reset.bank.romBank = 1 ∧ State.reset.bank.ramBank = 0 ∧
  State.reset.bank.ramEnabled = false ∧ State.reset.bank.bankingMode = .romBanking ∧ State.reset.ppu.line = 0 ∧
  State.reset.ppu.rendered = false ∧ State.reset.ppu.vblankFired = false ∧ State.reset.frameCycles = 0

end
end

