-- ==== Sys2Proof/Laws/State.lean ====
section
/-! SUPPORT. One lemma per field per state update: what each update leaves in each field. All hold by unfolding. -/

namespace Sys2Proof.Machine

/-! ## `State.busPoke` -/

@[simp] theorem State.busPoke_regs (s : State) (addr : Nat) (v : Byte) : (s.busPoke addr v).regs = s.regs := rfl
@[simp] theorem State.busPoke_flags (s : State) (addr : Nat) (v : Byte) : (s.busPoke addr v).flags = s.flags := rfl
@[simp] theorem State.busPoke_pc (s : State) (addr : Nat) (v : Byte) : (s.busPoke addr v).pc = s.pc := rfl
@[simp] theorem State.busPoke_sp (s : State) (addr : Nat) (v : Byte) : (s.busPoke addr v).sp = s.sp := rfl
@[simp] theorem State.busPoke_ime (s : State) (addr : Nat) (v : Byte) : (s.busPoke addr v).ime = s.ime := rfl
@[simp] theorem State.busPoke_halted (s : State) (addr : Nat) (v : Byte) : (s.busPoke addr v).halted = s.halted := rfl
@[simp] theorem State.busPoke_unimplementedSeen (s : State) (addr : Nat) (v : Byte) : (s.busPoke addr v).unimplementedSeen = s.unimplementedSeen := rfl
@[simp] theorem State.busPoke_bus (s : State) (addr : Nat) (v : Byte) : (s.busPoke addr v).bus = Store.write Config.busUnlisted s.bus addr v := rfl
@[simp] theorem State.busPoke_bank (s : State) (addr : Nat) (v : Byte) : (s.busPoke addr v).bank = s.bank := rfl
@[simp] theorem State.busPoke_ppu (s : State) (addr : Nat) (v : Byte) : (s.busPoke addr v).ppu = s.ppu := rfl
@[simp] theorem State.busPoke_frameCycles (s : State) (addr : Nat) (v : Byte) : (s.busPoke addr v).frameCycles = s.frameCycles := rfl
@[simp] theorem State.busPoke_fault (s : State) (addr : Nat) (v : Byte) : (s.busPoke addr v).fault = s.fault := rfl
@[simp] theorem State.busPoke_cart (s : State) (addr : Nat) (v : Byte) : (s.busPoke addr v).cart = s.cart := rfl
@[simp] theorem State.busPoke_stepCycles (s : State) (addr : Nat) (v : Byte) : (s.busPoke addr v).stepCycles = s.stepCycles := rfl
@[simp] theorem State.busPoke_extReq (s : State) (addr : Nat) (v : Byte) : (s.busPoke addr v).extReq = s.extReq := rfl

/-! ## `State.setReg` -/

@[simp] theorem State.setReg_regs (s : State) (r : Reg8) (v : Byte) : (s.setReg r v).regs = s.regs.set r v := rfl
@[simp] theorem State.setReg_flags (s : State) (r : Reg8) (v : Byte) : (s.setReg r v).flags = s.flags := rfl
@[simp] theorem State.setReg_pc (s : State) (r : Reg8) (v : Byte) : (s.setReg r v).pc = s.pc := rfl
@[simp] theorem State.setReg_sp (s : State) (r : Reg8) (v : Byte) : (s.setReg r v).sp = s.sp := rfl
@[simp] theorem State.setReg_ime (s : State) (r : Reg8) (v : Byte) : (s.setReg r v).ime = s.ime := rfl
@[simp] theorem State.setReg_halted (s : State) (r : Reg8) (v : Byte) : (s.setReg r v).halted = s.halted := rfl
@[simp] theorem State.setReg_unimplementedSeen (s : State) (r : Reg8) (v : Byte) : (s.setReg r v).unimplementedSeen = s.unimplementedSeen := rfl
@[simp] theorem State.setReg_bus (s : State) (r : Reg8) (v : Byte) : (s.setReg r v).bus = s.bus := rfl
@[simp] theorem State.setReg_bank (s : State) (r : Reg8) (v : Byte) : (s.setReg r v).bank = s.bank := rfl
@[simp] theorem State.setReg_ppu (s : State) (r : Reg8) (v : Byte) : (s.setReg r v).ppu = s.ppu := rfl
@[simp] theorem State.setReg_frameCycles (s : State) (r : Reg8) (v : Byte) : (s.setReg r v).frameCycles = s.frameCycles := rfl
@[simp] theorem State.setReg_fault (s : State) (r : Reg8) (v : Byte) : (s.setReg r v).fault = s.fault := rfl
@[simp] theorem State.setReg_cart (s : State) (r : Reg8) (v : Byte) : (s.setReg r v).cart = s.cart := rfl
@[simp] theorem State.setReg_stepCycles (s : State) (r : Reg8) (v : Byte) : (s.setReg r v).stepCycles = s.stepCycles := rfl
@[simp] theorem State.setReg_extReq (s : State) (r : Reg8) (v : Byte) : (s.setReg r v).extReq = s.extReq := rfl

/-! ## `State.setFlags` -/

@[simp] theorem State.setFlags_regs (s : State) (f : Flags) : (s.setFlags f).regs = s.regs := rfl
@[simp] theorem State.setFlags_flags (s : State) (f : Flags) : (s.setFlags f).flags = f := rfl
@[simp] theorem State.setFlags_pc (s : State) (f : Flags) : (s.setFlags f).pc = s.pc := rfl
@[simp] theorem State.setFlags_sp (s : State) (f : Flags) : (s.setFlags f).sp = s.sp := rfl
@[simp] theorem State.setFlags_ime (s : State) (f : Flags) : (s.setFlags f).ime = s.ime := rfl
@[simp] theorem State.setFlags_halted (s : State) (f : Flags) : (s.setFlags f).halted = s.halted := rfl
@[simp] theorem State.setFlags_unimplementedSeen (s : State) (f : Flags) : (s.setFlags f).unimplementedSeen = s.unimplementedSeen := rfl
@[simp] theorem State.setFlags_bus (s : State) (f : Flags) : (s.setFlags f).bus = s.bus := rfl
@[simp] theorem State.setFlags_bank (s : State) (f : Flags) : (s.setFlags f).bank = s.bank := rfl
@[simp] theorem State.setFlags_ppu (s : State) (f : Flags) : (s.setFlags f).ppu = s.ppu := rfl
@[simp] theorem State.setFlags_frameCycles (s : State) (f : Flags) : (s.setFlags f).frameCycles = s.frameCycles := rfl
@[simp] theorem State.setFlags_fault (s : State) (f : Flags) : (s.setFlags f).fault = s.fault := rfl
@[simp] theorem State.setFlags_cart (s : State) (f : Flags) : (s.setFlags f).cart = s.cart := rfl
@[simp] theorem State.setFlags_stepCycles (s : State) (f : Flags) : (s.setFlags f).stepCycles = s.stepCycles := rfl
@[simp] theorem State.setFlags_extReq (s : State) (f : Flags) : (s.setFlags f).extReq = s.extReq := rfl

/-! ## `State.setHL` -/

@[simp] theorem State.setHL_regs (s : State) (v : Word) : (s.setHL v).regs = { s.regs with h := hiByte v, l := loByte v } := rfl
@[simp] theorem State.setHL_flags (s : State) (v : Word) : (s.setHL v).flags = s.flags := rfl
@[simp] theorem State.setHL_pc (s : State) (v : Word) : (s.setHL v).pc = s.pc := rfl
@[simp] theorem State.setHL_sp (s : State) (v : Word) : (s.setHL v).sp = s.sp := rfl
@[simp] theorem State.setHL_ime (s : State) (v : Word) : (s.setHL v).ime = s.ime := rfl
@[simp] theorem State.setHL_halted (s : State) (v : Word) : (s.setHL v).halted = s.halted := rfl
@[simp] theorem State.setHL_unimplementedSeen (s : State) (v : Word) : (s.setHL v).unimplementedSeen = s.unimplementedSeen := rfl
@[simp] theorem State.setHL_bus (s : State) (v : Word) : (s.setHL v).bus = s.bus := rfl
@[simp] theorem State.setHL_bank (s : State) (v : Word) : (s.setHL v).bank = s.bank := rfl
@[simp] theorem State.setHL_ppu (s : State) (v : Word) : (s.setHL v).ppu = s.ppu := rfl
@[simp] theorem State.setHL_frameCycles (s : State) (v : Word) : (s.setHL v).frameCycles = s.frameCycles := rfl
@[simp] theorem State.setHL_fault (s : State) (v : Word) : (s.setHL v).fault = s.fault := rfl
@[simp] theorem State.setHL_cart (s : State) (v : Word) : (s.setHL v).cart = s.cart := rfl
@[simp] theorem State.setHL_stepCycles (s : State) (v : Word) : (s.setHL v).stepCycles = s.stepCycles := rfl
@[simp] theorem State.setHL_extReq (s : State) (v : Word) : (s.setHL v).extReq = s.extReq := rfl

/-! ## `State.returnCycles` -/

@[simp] theorem State.returnCycles_regs (s : State) (c : Nat) : (s.returnCycles c).regs = s.regs := rfl
@[simp] theorem State.returnCycles_flags (s : State) (c : Nat) : (s.returnCycles c).flags = s.flags := rfl
@[simp] theorem State.returnCycles_pc (s : State) (c : Nat) : (s.returnCycles c).pc = s.pc := rfl
@[simp] theorem State.returnCycles_sp (s : State) (c : Nat) : (s.returnCycles c).sp = s.sp := rfl
@[simp] theorem State.returnCycles_ime (s : State) (c : Nat) : (s.returnCycles c).ime = s.ime := rfl
@[simp] theorem State.returnCycles_halted (s : State) (c : Nat) : (s.returnCycles c).halted = s.halted := rfl
@[simp] theorem State.returnCycles_unimplementedSeen (s : State) (c : Nat) : (s.returnCycles c).unimplementedSeen = s.unimplementedSeen := rfl
@[simp] theorem State.returnCycles_bus (s : State) (c : Nat) : (s.returnCycles c).bus = s.bus := rfl
@[simp] theorem State.returnCycles_bank (s : State) (c : Nat) : (s.returnCycles c).bank = s.bank := rfl
@[simp] theorem State.returnCycles_ppu (s : State) (c : Nat) : (s.returnCycles c).ppu = s.ppu := rfl
@[simp] theorem State.returnCycles_frameCycles (s : State) (c : Nat) : (s.returnCycles c).frameCycles = s.frameCycles := rfl
@[simp] theorem State.returnCycles_fault (s : State) (c : Nat) : (s.returnCycles c).fault = s.fault := rfl
@[simp] theorem State.returnCycles_cart (s : State) (c : Nat) : (s.returnCycles c).cart = s.cart := rfl
@[simp] theorem State.returnCycles_stepCycles (s : State) (c : Nat) : (s.returnCycles c).stepCycles = c := rfl
@[simp] theorem State.returnCycles_extReq (s : State) (c : Nat) : (s.returnCycles c).extReq = s.extReq := rfl

/-! ## `State.setPair`, but for the fields it writes -/

@[simp] theorem State.setPair_flags (s : State) (p : Pair) (v : Word) : (s.setPair p v).flags = s.flags := by cases p <;> rfl
@[simp] theorem State.setPair_pc (s : State) (p : Pair) (v : Word) : (s.setPair p v).pc = s.pc := by cases p <;> rfl
@[simp] theorem State.setPair_ime (s : State) (p : Pair) (v : Word) : (s.setPair p v).ime = s.ime := by cases p <;> rfl
@[simp] theorem State.setPair_halted (s : State) (p : Pair) (v : Word) : (s.setPair p v).halted = s.halted := by cases p <;> rfl
@[simp] theorem State.setPair_unimplementedSeen (s : State) (p : Pair) (v : Word) : (s.setPair p v).unimplementedSeen = s.unimplementedSeen := by cases p <;> rfl
@[simp] theorem State.setPair_bus (s : State) (p : Pair) (v : Word) : (s.setPair p v).bus = s.bus := by cases p <;> rfl
@[simp] theorem State.setPair_bank (s : State) (p : Pair) (v : Word) : (s.setPair p v).bank = s.bank := by cases p <;> rfl
@[simp] theorem State.setPair_ppu (s : State) (p : Pair) (v : Word) : (s.setPair p v).ppu = s.ppu := by cases p <;> rfl
@[simp] theorem State.setPair_frameCycles (s : State) (p : Pair) (v : Word) : (s.setPair p v).frameCycles = s.frameCycles := by cases p <;> rfl
@[simp] theorem State.setPair_fault (s : State) (p : Pair) (v : Word) : (s.setPair p v).fault = s.fault := by cases p <;> rfl
@[simp] theorem State.setPair_cart (s : State) (p : Pair) (v : Word) : (s.setPair p v).cart = s.cart := by cases p <;> rfl
@[simp] theorem State.setPair_stepCycles (s : State) (p : Pair) (v : Word) : (s.setPair p v).stepCycles = s.stepCycles := by cases p <;> rfl
@[simp] theorem State.setPair_extReq (s : State) (p : Pair) (v : Word) : (s.setPair p v).extReq = s.extReq := by cases p <;> rfl

/-! ## `State.setStackPair`, but for the fields it writes -/

@[simp] theorem State.setStackPair_pc (s : State) (q : StackPair) (v : Word) : (s.setStackPair q v).pc = s.pc := by cases q <;> rfl
@[simp] theorem State.setStackPair_sp (s : State) (q : StackPair) (v : Word) : (s.setStackPair q v).sp = s.sp := by cases q <;> rfl
@[simp] theorem State.setStackPair_ime (s : State) (q : StackPair) (v : Word) : (s.setStackPair q v).ime = s.ime := by cases q <;> rfl
@[simp] theorem State.setStackPair_halted (s : State) (q : StackPair) (v : Word) : (s.setStackPair q v).halted = s.halted := by cases q <;> rfl
@[simp] theorem State.setStackPair_unimplementedSeen (s : State) (q : StackPair) (v : Word) : (s.setStackPair q v).unimplementedSeen = s.unimplementedSeen := by cases q <;> rfl
@[simp] theorem State.setStackPair_bus (s : State) (q : StackPair) (v : Word) : (s.setStackPair q v).bus = s.bus := by cases q <;> rfl
@[simp] theorem State.setStackPair_bank (s : State) (q : StackPair) (v : Word) : (s.setStackPair q v).bank = s.bank := by cases q <;> rfl
@[simp] theorem State.setStackPair_ppu (s : State) (q : StackPair) (v : Word) : (s.setStackPair q v).ppu = s.ppu := by cases q <;> rfl
@[simp] theorem State.setStackPair_frameCycles (s : State) (q : StackPair) (v : Word) : (s.setStackPair q v).frameCycles = s.frameCycles := by cases q <;> rfl
@[simp] theorem State.setStackPair_fault (s : State) (q : StackPair) (v : Word) : (s.setStackPair q v).fault = s.fault := by cases q <;> rfl
@[simp] theorem State.setStackPair_cart (s : State) (q : StackPair) (v : Word) : (s.setStackPair q v).cart = s.cart := by cases q <;> rfl
@[simp] theorem State.setStackPair_stepCycles (s : State) (q : StackPair) (v : Word) : (s.setStackPair q v).stepCycles = s.stepCycles := by cases q <;> rfl
@[simp] theorem State.setStackPair_extReq (s : State) (q : StackPair) (v : Word) : (s.setStackPair q v).extReq = s.extReq := by cases q <;> rfl

/-! ## The register file -/

/-- A register reads back what was written to it. -/
@[simp] theorem Regs.get_set_same (g : Regs) (r : Reg8) (v : Byte) : (g.set r v).get r = v := by cases r <;> rfl

/-- A write to one register leaves the others. -/
theorem Regs.get_set_other (g : Regs) (r q : Reg8) (v : Byte) (h : q ≠ r) : (g.set r v).get q = g.get q := by
  cases r <;> cases q <;> first | rfl | exact absurd rfl h

/-- The byte F gives back the flags (R103). -/
@[simp] theorem Flags.ofByte_toByte (f : Flags) : Flags.ofByte f.toByte = f := by
  rcases f with ⟨z, n, h, c⟩
  cases z <;> cases n <;> cases h <;> cases c <;> rfl

/-- `{hi, lo}` = `hi * 256 + lo` (R11). -/
theorem wordOf_toNat (h l : Byte) : (wordOf h l).toNat = h.toNat * 256 + l.toNat := by
  unfold wordOf
  rw [BitVec.toNat_append, ← Nat.shiftLeft_add_eq_or_of_lt l.isLt, Nat.shiftLeft_eq]

/-- `v[15:8]` as a number. -/
theorem hiByte_toNat (w : Word) : (hiByte w).toNat = w.toNat / 256 := by
  have := w.isLt
  simp only [hiByte, BitVec.extractLsb'_toNat, Nat.shiftRight_eq_div_pow]
  omega

/-- `v[7:0]` as a number. -/
theorem loByte_toNat (w : Word) : (loByte w).toNat = w.toNat % 256 := by
  simp [loByte, BitVec.extractLsb'_toNat]

/-- The two bytes of a pair make it up (R104). -/
@[simp] theorem wordOf_hiByte_loByte (w : Word) : wordOf (hiByte w) (loByte w) = w := by
  apply BitVec.eq_of_toNat_eq
  rw [wordOf_toNat, hiByte_toNat, loByte_toNat]
  omega

@[simp] theorem hiByte_wordOf (h l : Byte) : hiByte (wordOf h l) = h := by
  have := l.isLt
  apply BitVec.eq_of_toNat_eq
  rw [hiByte_toNat, wordOf_toNat]
  omega

@[simp] theorem loByte_wordOf (h l : Byte) : loByte (wordOf h l) = l := by
  have := l.isLt
  apply BitVec.eq_of_toNat_eq
  rw [loByte_toNat, wordOf_toNat]
  omega

end Sys2Proof.Machine
end

