-- ==== Sys2Proof/Laws/Store.lean ====
section
/-! SUPPORT. The laws of the sparse storage: read after write, and every write keeps the canonical form. -/

namespace Sys2Proof.Machine

variable {w : Nat} {unlisted : Nat → BitVec w}

theorem Store.read_insert_same (m : Store w) (i : Nat) (v : BitVec w) :
    Store.read unlisted (Store.insert m i v) i = v := by
  induction m with
  | nil => simp [Store.insert, Store.read]
  | cons c rest ih =>
    obtain ⟨k, u⟩ := c
    simp only [Store.insert]
    split
    · simp [Store.read]
    · split <;> simp_all [Store.read]

theorem Store.read_insert_other (m : Store w) (i j : Nat) (v : BitVec w) (h : j ≠ i) :
    Store.read unlisted (Store.insert m i v) j = Store.read unlisted m j := by
  induction m with
  | nil => simp [Store.insert, Store.read, Ne.symm h]
  | cons c rest ih =>
    obtain ⟨k, u⟩ := c
    simp only [Store.insert]
    split
    · simp [Store.read, Ne.symm h]
    · split
      · subst k
        simp [Store.read, Ne.symm h]
      · simp [Store.read, ih]

theorem Store.read_erase_same (m : Store w) (i : Nat) : Store.read unlisted (Store.erase m i) i = unlisted i := by
  induction m with
  | nil => rfl
  | cons c rest ih =>
    obtain ⟨k, u⟩ := c
    by_cases hk : k = i <;> simp_all [Store.erase, Store.read]

theorem Store.read_erase_other (m : Store w) (i j : Nat) (h : j ≠ i) :
    Store.read unlisted (Store.erase m i) j = Store.read unlisted m j := by
  induction m with
  | nil => rfl
  | cons c rest ih =>
    obtain ⟨k, u⟩ := c
    by_cases hk : k = i
    · subst k
      simp_all [Store.erase, Store.read, Ne.symm h]
    · simp_all [Store.erase, Store.read]

/-- A read of the index written gives the value written. -/
@[simp] theorem Store.read_write_same (m : Store w) (i : Nat) (v : BitVec w) :
    Store.read unlisted (Store.write unlisted m i v) i = v := by
  unfold Store.write
  split
  · next h => rw [Store.read_erase_same, h]
  · exact Store.read_insert_same m i v

/-- A write leaves every other index alone. -/
theorem Store.read_write_other (m : Store w) (i j : Nat) (v : BitVec w) (h : j ≠ i) :
    Store.read unlisted (Store.write unlisted m i v) j = Store.read unlisted m j := by
  unfold Store.write
  split
  · exact Store.read_erase_other m i j h
  · exact Store.read_insert_other m i j v h

/-- Reading after a write, at any index. -/
theorem Store.read_write (m : Store w) (i j : Nat) (v : BitVec w) :
    Store.read unlisted (Store.write unlisted m i v) j = if j = i then v else Store.read unlisted m j := by
  split
  · next h => rw [h, Store.read_write_same]
  · next h => exact Store.read_write_other m i j v h

theorem Store.wfFrom_lower {bound a b : Nat} {m : Store w} (hab : a ≤ b) (h : Store.wfFrom unlisted bound b m) :
    Store.wfFrom unlisted bound a m := by
  cases m with
  | nil => rfl
  | cons c rest =>
    simp only [Store.wfFrom, Bool.and_eq_true, decide_eq_true_eq] at h ⊢
    exact ⟨⟨⟨by omega, h.1.1.2⟩, h.1.2⟩, h.2⟩

theorem Store.wfFrom_insert {bound lo i : Nat} {m : Store w} {v : BitVec w} (hlo : lo ≤ i) (hi : i < bound)
    (hv : v ≠ unlisted i) (h : Store.wfFrom unlisted bound lo m) :
    Store.wfFrom unlisted bound lo (Store.insert m i v) := by
  induction m generalizing lo with
  | nil => simp [Store.insert, Store.wfFrom, hlo, hi, hv]
  | cons c rest ih =>
    obtain ⟨k, u⟩ := c
    simp only [Store.wfFrom, Bool.and_eq_true, decide_eq_true_eq] at h
    simp only [Store.insert]
    split
    · simp only [Store.wfFrom, Bool.and_eq_true, decide_eq_true_eq]
      exact ⟨⟨⟨hlo, hi⟩, hv⟩, ⟨⟨by omega, h.1.1.2⟩, h.1.2⟩, h.2⟩
    · split
      · subst k
        simp only [Store.wfFrom, Bool.and_eq_true, decide_eq_true_eq]
        exact ⟨⟨⟨hlo, hi⟩, hv⟩, h.2⟩
      · simp only [Store.wfFrom, Bool.and_eq_true, decide_eq_true_eq]
        exact ⟨h.1, ih (by omega) h.2⟩

theorem Store.wfFrom_erase {bound lo i : Nat} {m : Store w} (h : Store.wfFrom unlisted bound lo m) :
    Store.wfFrom unlisted bound lo (Store.erase m i) := by
  induction m generalizing lo with
  | nil => rfl
  | cons c rest ih =>
    obtain ⟨k, u⟩ := c
    simp only [Store.wfFrom, Bool.and_eq_true, decide_eq_true_eq] at h
    have htail := ih h.2
    by_cases hk : k = i
    · have : Store.erase ((k, u) :: rest) i = Store.erase rest i := by simp [Store.erase, hk]
      rw [this]
      exact Store.wfFrom_lower (by omega) htail
    · have : Store.erase ((k, u) :: rest) i = (k, u) :: Store.erase rest i := by simp [Store.erase, hk]
      rw [this]
      simp only [Store.wfFrom, Bool.and_eq_true, decide_eq_true_eq]
      exact ⟨h.1, htail⟩

/-- A write inside the bound keeps the canonical form. -/
theorem Store.wf_write {bound i : Nat} {m : Store w} {v : BitVec w} (hi : i < bound) (h : Store.wf unlisted bound m) :
    Store.wf unlisted bound (Store.write unlisted m i v) := by
  unfold Store.write Store.wf at *
  split
  · exact Store.wfFrom_erase h
  · next hv => exact Store.wfFrom_insert (Nat.zero_le i) hi hv h

/-- The empty list is in the canonical form. -/
@[simp] theorem Store.wf_nil (bound : Nat) : Store.wf unlisted bound ([] : Store w) = true := rfl

/-- A write inside the bound keeps the canonical form of a byte storage. -/
theorem Memory.wf_write {u : Nat → Byte} {bound i : Nat} {m : Memory} {v : Byte} (hi : i < bound)
    (h : Memory.wf u bound m) : Memory.wf u bound (Store.write u m i v) := Store.wf_write hi h

end Sys2Proof.Machine
end

