-- ==== Sys2Proof/Laws/Ops.lean ====
section
/-! SUPPORT. For each shared operation, what it can do, said once: sequencing, the range-checked assignments, MemRead and MemWrite,
the DMA copy, the stack, and the frame of one instruction. -/

namespace Sys2Proof.Machine

/-! ## Sequencing -/

@[simp] theorem andThen_next (s : State) (k : State → Result) : andThen (.next s) k = k s := rfl
@[simp] theorem andThen_fault (f : Fault) (k : State → Result) : andThen (.fault f) k = .fault f := rfl
@[simp] theorem andThen_refused (q : Refusal) (k : State → Result) : andThen (.refused q) k = .refused q := rfl
@[simp] theorem andThen_raise (f : FaultRecord) (s : State) (k : State → Result) : andThen (raise f s) k = raise f s := rfl

/-- A sequence answers a next state exactly when both halves do. -/
theorem andThen_eq_next {r : Result} {k : State → Result} {t : State} :
    andThen r k = .next t ↔ ∃ s, r = .next s ∧ k s = .next t := by
  cases r <;> simp

@[simp] theorem raise_ne_next (f : FaultRecord) (s t : State) : raise f s ≠ .next t := by simp [raise]

/-! ## PC and SP -/

/-- `assignPC` answers a next state exactly on a value in range (R105). -/
theorem assignPC_eq_next {v : Int} {s t : State} :
    assignPC v s = .next t ↔ (0 ≤ v ∧ v ≤ 0xFFFF) ∧ t = { s with pc := trunc16 v } := by
  unfold assignPC
  split
  · next h => simp [h, eq_comm]
  · next h => simp [h]

/-- A natural number in range, as a 16-bit value. -/
theorem trunc16_natCast (n : Nat) : trunc16 (n : Int) = BitVec.ofNat 16 n := by simp [trunc16]

@[simp] theorem trunc16_toNat (w : Word) : trunc16 (w.toNat : Int) = w := by simp [trunc16_natCast]

/-- The sequential advance inside the address space (R406). -/
theorem assignPC_advance {s : State} {len : Nat} (h : s.pc.toNat + len ≤ 0xFFFF) :
    assignPC (s.pc.toNat + len) s = .next { s with pc := s.pc + BitVec.ofNat 16 len } := by
  rw [assignPC_eq_next]
  refine ⟨by omega, ?_⟩
  have : trunc16 ((s.pc.toNat : Int) + (len : Int)) = s.pc + BitVec.ofNat 16 len := by
    rw [← Int.natCast_add, trunc16_natCast, BitVec.ofNat_add]
    simp
  rw [this]

/-- Assigning a 16-bit value to PC never faults. -/
@[simp] theorem assignPC_word (w : Word) (s : State) : assignPC w.toNat s = .next { s with pc := w } := by
  rw [assignPC_eq_next]
  have := w.isLt
  exact ⟨by omega, by simp⟩

/-- `assignSP` answers a next state exactly on a value in range (R106). -/
theorem assignSP_eq_next {v : Int} {s t : State} :
    assignSP v s = .next t ↔ (0 ≤ v ∧ v ≤ 0xFFFF) ∧ t = { s with sp := trunc16 v } := by
  unfold assignSP
  split
  · next h => simp [h, eq_comm]
  · next h => simp [h]

/-- Assigning a 16-bit value to SP never faults. -/
@[simp] theorem assignSP_word (w : Word) (s : State) : assignSP w.toNat s = .next { s with sp := w } := by
  rw [assignSP_eq_next]
  have := w.isLt
  exact ⟨by omega, by simp⟩

theorem assignPC_fault {v : Int} {s : State} (h : ¬(0 ≤ v ∧ v ≤ 0xFFFF)) : assignPC v s = raise (.pcRange v) s :=
  if_neg h

theorem assignSP_fault {v : Int} {s : State} (h : ¬(0 ≤ v ∧ v ≤ 0xFFFF)) : assignSP v s = raise (.spRange v) s :=
  if_neg h

/-! ## The raw bus -/

/-- Reading the bus after a raw store. -/
theorem busRead_busPoke (s : State) (addr i : Nat) (v : Byte) :
    (s.busPoke addr v).busRead i = if i = addr then v else s.busRead i := Store.read_write ..

@[simp] theorem busRead_busPoke_same (s : State) (addr : Nat) (v : Byte) : (s.busPoke addr v).busRead addr = v := by
  simp [busRead_busPoke]

/-- A DMA copy changes the bus only. -/
theorem dmaCopy_bus (src n : Nat) (s : State) : dmaCopy src n s = { s with bus := (dmaCopy src n s).bus } := by
  induction n with
  | zero => rfl
  | succ k ih =>
    simp only [dmaCopy]
    rw [ih]
    rfl

/-- A DMA write changes the bus only. -/
theorem dmaWrite_bus (v : Byte) (s : State) : s.dmaWrite v = { s with bus := (s.dmaWrite v).bus } := by
  unfold State.dmaWrite
  have h := dmaCopy_bus (v.toNat * 256) Params.dmaLength (s.busPoke Params.addrDMA v)
  generalize dmaCopy (v.toNat * 256) Params.dmaLength (s.busPoke Params.addrDMA v) = t at h ⊢
  exact h

/-- A DMA copy leaves every byte outside its destination. -/
theorem busRead_dmaCopy_outside {src n i : Nat} (s : State) (h : i < Params.addrOAM ∨ Params.addrOAM + n ≤ i) :
    (dmaCopy src n s).busRead i = s.busRead i := by
  induction n with
  | zero => rfl
  | succ k ih =>
    simp only [dmaCopy]
    rw [busRead_busPoke, if_neg (by omega), ih (by omega)]

/-! ## MemWrite -/

/-- A raw bus write changes the bus only. -/
theorem busWrite_bus (addr : Nat) (v : Byte) (s : State) : s.busWrite addr v = { s with bus := (s.busWrite addr v).bus } := by
  unfold State.busWrite
  split
  · rfl
  · split
    · rfl
    · split
      · exact dmaWrite_bus v s
      · rfl

/-- MemWrite changes the bus and the bank controller only (R221). -/
theorem memWrite_only (addr : Word) (v : Byte) (s : State) :
    s.memWrite addr v = { s with bus := (s.memWrite addr v).bus, bank := (s.memWrite addr v).bank } := by
  unfold State.memWrite
  split
  · rfl
  split
  · rfl
  split
  · rfl
  split
  · rfl
  split
  · unfold State.extRamWrite
    split <;> rfl
  · rw [busWrite_bus]

@[simp] theorem memWrite_regs (addr : Word) (v : Byte) (s : State) : (s.memWrite addr v).regs = s.regs := by
  rw [memWrite_only]
@[simp] theorem memWrite_flags (addr : Word) (v : Byte) (s : State) : (s.memWrite addr v).flags = s.flags := by
  rw [memWrite_only]
@[simp] theorem memWrite_pc (addr : Word) (v : Byte) (s : State) : (s.memWrite addr v).pc = s.pc := by rw [memWrite_only]
@[simp] theorem memWrite_sp (addr : Word) (v : Byte) (s : State) : (s.memWrite addr v).sp = s.sp := by rw [memWrite_only]
@[simp] theorem memWrite_ime (addr : Word) (v : Byte) (s : State) : (s.memWrite addr v).ime = s.ime := by
  rw [memWrite_only]
@[simp] theorem memWrite_halted (addr : Word) (v : Byte) (s : State) : (s.memWrite addr v).halted = s.halted := by
  rw [memWrite_only]
@[simp] theorem memWrite_unimplementedSeen (addr : Word) (v : Byte) (s : State) :
    (s.memWrite addr v).unimplementedSeen = s.unimplementedSeen := by rw [memWrite_only]
@[simp] theorem memWrite_ppu (addr : Word) (v : Byte) (s : State) : (s.memWrite addr v).ppu = s.ppu := by
  rw [memWrite_only]
@[simp] theorem memWrite_frameCycles (addr : Word) (v : Byte) (s : State) :
    (s.memWrite addr v).frameCycles = s.frameCycles := by rw [memWrite_only]
@[simp] theorem memWrite_fault (addr : Word) (v : Byte) (s : State) : (s.memWrite addr v).fault = s.fault := by
  rw [memWrite_only]
@[simp] theorem memWrite_cart (addr : Word) (v : Byte) (s : State) : (s.memWrite addr v).cart = s.cart := by
  rw [memWrite_only]
@[simp] theorem memWrite_stepCycles (addr : Word) (v : Byte) (s : State) :
    (s.memWrite addr v).stepCycles = s.stepCycles := by rw [memWrite_only]
@[simp] theorem memWrite_extReq (addr : Word) (v : Byte) (s : State) : (s.memWrite addr v).extReq = s.extReq := by
  rw [memWrite_only]

/-- A DMA copy looks at the bus only. -/
theorem dmaCopy_congr {s t : State} (src n : Nat) (h : t.bus = s.bus) : (dmaCopy src n t).bus = (dmaCopy src n s).bus := by
  induction n with
  | zero => exact h
  | succ k ih =>
    simp only [dmaCopy, State.busPoke, State.busRead]
    rw [ih]

/-- MemWrite looks at the bus, the bank controller and the cartridge only. -/
theorem memWrite_congr {s t : State} (addr : Word) (v : Byte) (hb : t.bus = s.bus) (hk : t.bank = s.bank)
    (hc : t.cart = s.cart) :
    (t.memWrite addr v).bus = (s.memWrite addr v).bus ∧ (t.memWrite addr v).bank = (s.memWrite addr v).bank := by
  unfold State.memWrite
  split
  · exact ⟨hb, by simp only [hk]⟩
  split
  · exact ⟨hb, by simp only [hk]⟩
  split
  · exact ⟨hb, by simp only [hk]⟩
  split
  · exact ⟨hb, by simp only [hk]⟩
  split
  · have hi : t.extRamReached addr.toNat = s.extRamReached addr.toNat := by
      unfold State.extRamReached State.extRamIndex
      rw [hk, hc]
    unfold State.extRamWrite
    rw [hi]
    split
    · refine ⟨hb, ?_⟩
      unfold State.extRamIndex
      rw [hk]
    · exact ⟨hb, hk⟩
  · refine ⟨?_, ?_⟩
    · unfold State.busWrite
      split
      · simp only [State.statWrite, State.busPoke, State.busRead, hb]
      split
      · exact hb
      split
      · exact dmaCopy_congr _ _ (by simp only [State.busPoke, hb])
      · simp only [State.busPoke, hb]
    · rw [busWrite_bus, busWrite_bus (s := s)]
      exact hk

/-- MemWrite after an update of the fields it does not look at. -/
theorem memWrite_update (s : State) (addr : Word) (v : Byte) (regs : Regs) (flags : Flags) (pc sp : Word)
    (ime halted seen : Bool) (cycles : Nat) :
    State.memWrite addr v
        { s with
          regs := regs, flags := flags, pc := pc, sp := sp, ime := ime, halted := halted, unimplementedSeen := seen,
          stepCycles := cycles } =
      { s.memWrite addr v with
        regs := regs, flags := flags, pc := pc, sp := sp, ime := ime, halted := halted, unimplementedSeen := seen,
        stepCycles := cycles } := by
  rw [memWrite_only addr v s, memWrite_only]
  have h := memWrite_congr (s := s)
    (t := { s with
      regs := regs, flags := flags, pc := pc, sp := sp, ime := ime, halted := halted, unimplementedSeen := seen,
      stepCycles := cycles }) addr v rfl rfl rfl
  rw [h.1, h.2]

theorem memWrite_setSp (s : State) (addr : Word) (v : Byte) (sp : Word) :
    State.memWrite addr v { s with sp := sp } = { s.memWrite addr v with sp := sp } :=
  (memWrite_update s addr v s.regs s.flags s.pc sp s.ime s.halted s.unimplementedSeen s.stepCycles).trans
    (by simp)

theorem memWrite_setPc (s : State) (addr : Word) (v : Byte) (pc : Word) :
    State.memWrite addr v { s with pc := pc } = { s.memWrite addr v with pc := pc } :=
  (memWrite_update s addr v s.regs s.flags pc s.sp s.ime s.halted s.unimplementedSeen s.stepCycles).trans
    (by simp)

/-- MemWrite never changes LY (R204). -/
theorem memWrite_LY (addr : Word) (v : Byte) (s : State) :
    (s.memWrite addr v).busRead Params.addrLY = s.busRead Params.addrLY := by
  unfold State.memWrite
  split
  · rfl
  split
  · rfl
  split
  · rfl
  split
  · rfl
  split
  · unfold State.extRamWrite
    split <;> rfl
  unfold State.busWrite
  split
  · simp [State.statWrite, busRead_busPoke, Params.addrLY, Params.addrSTAT]
  split
  · rfl
  split
  · rw [State.dmaWrite, busRead_dmaCopy_outside _ (by simp [Params.addrLY, Params.addrOAM, Params.dmaLength])]
    simp [busRead_busPoke, Params.addrLY, Params.addrDMA]
  · rw [busRead_busPoke, if_neg (Ne.symm ‹_›)]

/-- MemWrite never changes the phase bits of STAT (R203). -/
theorem memWrite_STAT_phase (addr : Word) (v : Byte) (s : State) :
    ((s.memWrite addr v).busRead Params.addrSTAT).extractLsb' 0 2 = (s.busRead Params.addrSTAT).extractLsb' 0 2 := by
  unfold State.memWrite
  split
  · rfl
  split
  · rfl
  split
  · rfl
  split
  · rfl
  split
  · unfold State.extRamWrite
    split <;> rfl
  unfold State.busWrite
  split
  · simp only [State.statWrite, busRead_busPoke_same]
    generalize s.busRead Params.addrSTAT = old
    ext i hi
    interval_cases i <;> simp [BitVec.getElem_extractLsb']
  split
  · rfl
  split
  · rw [State.dmaWrite, busRead_dmaCopy_outside _ (by simp [Params.addrSTAT, Params.addrOAM, Params.dmaLength])]
    simp [busRead_busPoke, Params.addrSTAT, Params.addrDMA]
  · rw [busRead_busPoke, if_neg (Ne.symm ‹_›)]

/-! ## MemRead -/

/-- MemRead looks at the bus, the bank controller and the cartridge only. -/
theorem memRead_congr {s t : State} (addr : Word) (hb : t.bus = s.bus) (hk : t.bank = s.bank) (hc : t.cart = s.cart) :
    t.memRead addr = s.memRead addr := by
  unfold State.memRead State.romRead State.romIndex State.extRamRead State.extRamReached State.extRamIndex State.busRead
  rw [hb, hk, hc]

theorem memRead_setPc (s : State) (addr : Word) (pc : Word) :
    State.memRead { s with pc := pc } addr = s.memRead addr := memRead_congr addr rfl rfl rfl

/-- A successful read goes on with the byte. -/
theorem load_ok {addr : Word} {s : State} {v : Byte} {k : Byte → Result} (h : s.memRead addr = .ok v) :
    load addr s k = k v := by simp [load, h]

/-- A read past the ROM image ends the step. -/
theorem load_error {addr : Word} {s : State} {f : FaultRecord} {k : Byte → Result} (h : s.memRead addr = .error f) :
    load addr s k = raise f s := by simp [load, h]

/-- A load answers a next state exactly when its read and what follows do. -/
theorem load_eq_next {addr : Word} {s t : State} {k : Byte → Result} :
    load addr s k = .next t ↔ ∃ v, s.memRead addr = .ok v ∧ k v = .next t := by
  unfold load
  split <;> simp_all

/-! ## The stack -/

/-- `Push16` with room (R600): the high byte at SP-1, then the low byte at SP-2, and SP two lower. -/
theorem push16_next {v : Word} {s : State} (h : 2 ≤ s.sp.toNat) :
    push16 v s =
      .next { (s.memWrite (s.sp - 1) (hiByte v)).memWrite (s.sp - 2) (loByte v) with sp := s.sp - 2 } := by
  have hlt := s.sp.isLt
  have h1 : trunc16 ((s.sp.toNat : Int) - 1) = s.sp - 1 := by
    apply BitVec.eq_of_toNat_eq
    simp [trunc16, BitVec.toNat_ofInt, BitVec.toNat_sub]
    omega
  have h2 : ((s.sp - 1 : Word).toNat : Int) - 1 = (s.sp.toNat : Int) - 2 := by
    have : (s.sp - 1 : Word).toNat = s.sp.toNat - 1 := by
      simp [BitVec.toNat_sub]
      omega
    omega
  have h3 : trunc16 ((s.sp.toNat : Int) - 2) = s.sp - 2 := by
    apply BitVec.eq_of_toNat_eq
    simp [trunc16, BitVec.toNat_ofInt, BitVec.toNat_sub]
    omega
  unfold push16
  rw [if_neg (by omega)]
  have a1 : assignSP ((s.sp.toNat : Int) - 1) s = .next { s with sp := s.sp - 1 } := by
    rw [assignSP_eq_next]
    exact ⟨by omega, by rw [h1]⟩
  rw [a1]
  simp only [andThen_next]
  rw [memWrite_setSp]
  have a2 : assignSP (((s.sp - 1 : Word).toNat : Int) - 1) { s.memWrite (s.sp - 1) (hiByte v) with sp := s.sp - 1 } =
      .next { s.memWrite (s.sp - 1) (hiByte v) with sp := s.sp - 2 } := by
    rw [assignSP_eq_next]
    exact ⟨by omega, by rw [h2, h3]⟩
  rw [a2]
  simp only [andThen_next]
  rw [memWrite_setSp]

/-- `Push16` without room faults before any write (R600). -/
theorem push16_fault {v : Word} {s : State} (h : s.sp.toNat < 2) : push16 v s = raise (.spRange (s.sp.toNat - 2)) s :=
  if_pos h

/-- `Pop16` inside the range, when both bytes can be read (R600). -/
theorem pop16_next {s : State} {k : Word → State → Result} {lo hi : Byte} (h : s.sp.toNat + 2 ≤ 0xFFFF)
    (hlo : s.memRead s.sp = .ok lo) (hhi : s.memRead (s.sp + 1) = .ok hi) :
    pop16 s k = k (wordOf hi lo) { s with sp := s.sp + 2 } := by
  unfold pop16
  rw [if_neg (by omega), load_ok hlo, load_ok hhi]
  have a : assignSP ((s.sp.toNat : Int) + 2) s = .next { s with sp := s.sp + 2 } := by
    rw [assignSP_eq_next]
    refine ⟨by omega, ?_⟩
    have : trunc16 ((s.sp.toNat : Int) + 2) = s.sp + 2 := by
      apply BitVec.eq_of_toNat_eq
      simp [trunc16, BitVec.toNat_ofInt, BitVec.toNat_add]
      omega
    rw [this]
  rw [a]
  rfl

/-- `Pop16` outside the range faults before any read (R600). -/
theorem pop16_fault {s : State} {k : Word → State → Result} (h : 0xFFFF < s.sp.toNat + 2) :
    pop16 s k = raise (.spRange (s.sp.toNat + 2)) s := if_pos h

/-! ## The frame of one instruction -/

/-- An unconditional instruction inside the address space (R406, R409). -/
theorem execute_next {len cost : Nat} {rule : State → Result} {s : State} (h : s.pc.toNat + len ≤ 0xFFFF) :
    execute len cost rule s =
      andThen (rule { s with pc := s.pc + BitVec.ofNat 16 len }) fun t => .next (t.returnCycles cost) := by
  unfold execute
  rw [assignPC_advance h]
  rfl

/-- A conditional instruction whose condition holds. -/
theorem executeIf_taken {len cost notTaken : Nat} {cc : Cond} {rule : State → Result} {s : State}
    (h : s.pc.toNat + len ≤ 0xFFFF) (hc : s.flags.holds cc = true) :
    executeIf len cost notTaken (condHolds cc) rule s =
      andThen (rule { s with pc := s.pc + BitVec.ofNat 16 len }) fun t => .next (t.returnCycles cost) := by
  unfold executeIf
  rw [assignPC_advance h]
  simp [condHolds, hc]

/-- A conditional instruction whose condition does not hold: nothing but the advance (R1100). -/
theorem executeIf_notTaken {len cost notTaken : Nat} {cc : Cond} {rule : State → Result} {s : State}
    (h : s.pc.toNat + len ≤ 0xFFFF) (hc : s.flags.holds cc = false) :
    executeIf len cost notTaken (condHolds cc) rule s =
      .next ({ s with pc := s.pc + BitVec.ofNat 16 len }.returnCycles notTaken) := by
  unfold executeIf
  rw [assignPC_advance h]
  simp [condHolds, hc]

/-- The advance past 0xFFFF ends the step before any effect (R406). -/
theorem execute_fault {len cost : Nat} {rule : State → Result} {s : State} (h : 0xFFFF < s.pc.toNat + len) :
    execute len cost rule s = raise (.pcRange (s.pc.toNat + len)) s := by
  unfold execute
  rw [assignPC_fault (by omega)]
  rfl

theorem executeIf_fault {len cost notTaken : Nat} {cond : State → Bool} {rule : State → Result} {s : State}
    (h : 0xFFFF < s.pc.toNat + len) :
    executeIf len cost notTaken cond rule s = raise (.pcRange (s.pc.toNat + len)) s := by
  unfold executeIf
  rw [assignPC_fault (by omega)]
  rfl

end Sys2Proof.Machine
end

