-- ==== Sys2Proof/Laws/Exec.lean ====
section
/-! SUPPORT. What `exec` does, by form: one shared rule per form instead of one meaning per instruction. -/

namespace Sys2Proof.Machine

open Sys2Proof

/-- The meaning of a form: its rule inside the frame of R406 and R409. -/
def runForm (f : Form) : State → Result :=
  match f with
  | .ldRegReg dst src => execute 1 4 (ldRegReg dst src)
  | .ldRegImm dst n => execute 2 8 (ldRegImm dst n)
  | .ldRegMem dst => execute 1 8 (ldRegMem dst)
  | .ldMemReg src => execute 1 8 (ldMemReg src)
  | .ldMemImm n => execute 2 12 (ldMemImm n)
  | .ldAFrom ea => execute ea.length ea.cycles (ldAFrom ea)
  | .ldATo ea => execute ea.length ea.cycles (ldATo ea)
  | .ldAFromHL dir => execute 1 8 (ldAFromHL dir)
  | .ldAToHL dir => execute 1 8 (ldAToHL dir)
  | .ldPairImm p nn => execute 3 12 (ldPairImm p nn)
  | .ldMemSP nn => execute 3 20 (ldMemSP nn)
  | .ldSPHL => execute 1 8 ldSPHL
  | .push q => execute 1 16 (pushPair q)
  | .pop q => execute 1 12 (popPair q)
  | .alu op src => execute src.length src.cycles (aluA op src)
  | .inc8 (.reg r) => execute 1 4 (incByte (.reg r))
  | .inc8 .memHL => execute 1 12 (incByte .memHL)
  | .dec8 (.reg r) => execute 1 4 (decByte (.reg r))
  | .dec8 .memHL => execute 1 12 (decByte .memHL)
  | .daa => execute 1 4 daaA
  | .cpl => execute 1 4 cplA
  | .scf => execute 1 4 scf
  | .ccf => execute 1 4 ccf
  | .addHL p => execute 1 8 (addHL p)
  | .incPair p => execute 1 8 (incPair p)
  | .decPair p => execute 1 8 (decPair p)
  | .addSP e => execute 2 16 (addSP e)
  | .ldHLSP e => execute 2 12 (ldHLSP e)
  | .rotA op => execute 1 4 (rotateA op)
  | .rot op (.reg r) => execute 2 8 (rotate op (.reg r))
  | .rot op .memHL => execute 2 16 (rotate op .memHL)
  | .bit b (.reg r) => execute 2 8 (bitTarget b (.reg r))
  | .bit b .memHL => execute 2 12 (bitTarget b .memHL)
  | .res b (.reg r) => execute 2 8 (resTarget b (.reg r))
  | .res b .memHL => execute 2 16 (resTarget b .memHL)
  | .set b (.reg r) => execute 2 8 (setTarget b (.reg r))
  | .set b .memHL => execute 2 16 (setTarget b .memHL)
  | .jp nn => execute 3 16 (jumpTo nn)
  | .jpCond cc nn => executeIf 3 16 12 (condHolds cc) (jumpTo nn)
  | .jpHL => execute 1 4 jumpHL
  | .jr e => execute 2 12 (jumpBy e)
  | .jrCond cc e => executeIf 2 12 8 (condHolds cc) (jumpBy e)
  | .call nn => execute 3 24 (callTo nn)
  | .callCond cc nn => executeIf 3 24 12 (condHolds cc) (callTo nn)
  | .ret => execute 1 16 popPC
  | .retCond cc => executeIf 1 20 8 (condHolds cc) popPC
  | .reti => execute 1 16 returnFromInterrupt
  | .rst t => execute 1 16 (restart t)
  | .nop => execute 1 4 .next
  | .halt => halt
  | .stop => unimplemented 2 4
  | .di => execute 1 4 (setIME false)
  | .ei => execute 1 4 (setIME true)
  | .undefined b => undefinedOpcode b

/-- Every instruction's meaning is its form's. -/
theorem exec_form (i : Instr) (s : State) : exec i s = runForm (formOf i) s := by cases i <;> rfl

/-! ## The operand forms, once each -/

theorem modify_reg (r : Reg8) (f : Byte → Flags → Byte × Flags) (s : State) :
    modify (.reg r) f s = .next ((s.setReg r (f (s.regs.get r) s.flags).1).setFlags (f (s.regs.get r) s.flags).2) := rfl

theorem modify_memHL {f : Byte → Flags → Byte × Flags} {s : State} {v : Byte} (h : s.memRead s.regs.hl = .ok v) :
    modify .memHL f s = .next ((s.memWrite s.regs.hl (f v s.flags).1).setFlags (f v s.flags).2) := by
  simp only [modify, load_ok h]

theorem examine_reg (r : Reg8) (f : Byte → Flags → Flags) (s : State) :
    examine (.reg r) f s = .next (s.setFlags (f (s.regs.get r) s.flags)) := rfl

theorem examine_memHL {f : Byte → Flags → Flags} {s : State} {v : Byte} (h : s.memRead s.regs.hl = .ok v) :
    examine .memHL f s = .next (s.setFlags (f v s.flags)) := by simp only [examine, load_ok h]

/-- The operand of an 8-bit ALU instruction, in any of its forms. -/
theorem withSource_reads {s : State} {src : Source} {v : Byte} {k : Byte → Result} (h : s.reads src v) :
    withSource src s k = k v := by
  cases src with
  | reg r => exact congrArg k h
  | memHL => exact load_ok h
  | imm n => exact congrArg k h

/-- A read-modify-write, on a register and on the byte at HL. -/
theorem modify_reads {s : State} {t : Target} {v : Byte} {f : Byte → Flags → Byte × Flags} (h : s.targetReads t v) :
    modify t f s = .next ((s.writeTarget t (f v s.flags).1).setFlags (f v s.flags).2) := by
  cases t with
  | reg r =>
    have hv : s.regs.get r = v := h
    rw [modify_reg, hv]
    rfl
  | memHL => exact modify_memHL h

/-- A test of an operand, on a register and on the byte at HL. -/
theorem examine_reads {s : State} {t : Target} {v : Byte} {f : Byte → Flags → Flags} (h : s.targetReads t v) :
    examine t f s = .next (s.setFlags (f v s.flags)) := by
  cases t with
  | reg r =>
    have hv : s.regs.get r = v := h
    rw [examine_reg, hv]
  | memHL => exact examine_memHL h

/-! ## The other shared operations -/

/-- The unimplemented path inside the address space (R407). -/
theorem unimplemented_next {len cost : Nat} {s : State} (h : s.pc.toNat + len ≤ 0xFFFF) :
    unimplemented len cost s =
      .next { s with unimplementedSeen := true, pc := s.pc + BitVec.ofNat 16 len, stepCycles := cost } := by
  unfold unimplemented
  rw [assignPC_advance h]
  rfl

/-- The unimplemented path past the address space. -/
theorem unimplemented_fault {len cost : Nat} {s : State} (h : 0xFFFF < s.pc.toNat + len) :
    unimplemented len cost s = raise (.pcRange (s.pc.toNat + len)) s := by
  unfold unimplemented
  rw [assignPC_fault (by omega)]
  rfl

/-- `pc <- Pop16()` when both bytes can be read (R600, R1108). -/
theorem popPC_next {s : State} {lo hi : Byte} (h : s.sp.toNat + 2 ≤ 0xFFFF) (hlo : s.memRead s.sp = .ok lo)
    (hhi : s.memRead (s.sp + 1) = .ok hi) :
    popPC s = .next { s with sp := s.sp + 2, pc := wordOf hi lo } := by
  unfold popPC
  rw [pop16_next h hlo hhi, assignPC_word]

/-- A pair other than SP takes the wrapped value (R104, R800). -/
theorem assignPair_pair {p : Pair} {v : Int} {s : State} (h : p ≠ .sp) :
    assignPair p v s = .next (s.setPair p (trunc16 v)) := by
  cases p <;> first | rfl | contradiction

end Sys2Proof.Machine
end

