-- ==== Sys2Proof/Laws/Step.lean ====
section
/-! SUPPORT. What a step of a running machine does before the meaning of an instruction: the lookup of its opcode, the fetch of
its operand, and the faults of both. -/

namespace Sys2Proof.Machine

open Sys2Proof

/-- A faulting read is ROM_BOUNDS at the address read (R236). -/
theorem memRead_error {s : State} {addr : Word} {f : FaultRecord} (h : s.memRead addr = .error f) :
    f = .romBounds addr (s.romIndex addr.toNat) := by
  unfold State.memRead State.romRead at h
  split at h
  · simp only [] at h
    split at h
    · cases h
    · exact (Except.error.inj h).symm
  · split at h <;> cases h

/-- A step of a running machine is its CPU step and then the rest of the system step (R400). -/
theorem step_running {s : State} (hf : s.fault = none) (hh : s.halted = false) :
    step s = andThen (cpuRun s) afterCpuStep := by
  unfold step systemStep cpuStep
  rw [hf, hh]
  rfl

/-- The table entry of an instruction's encoding (R301). -/
def tableEntry (i : Instr) : Option Entry :=
  match encode i with
  | [] => none
  | b0 :: rest =>
    if b0 = 0xCB then
      match rest with
      | [] => none
      | b1 :: _ => some (cbEntry b1)
    else
      match opCell b0 with
      | .entry e => some e
      | .undefined _ => none
      | .escape => none

/-- How many bytes after the opcode an entry's operand stands for. -/
def operandBytes (o : Operand) : Nat :=
  match o with
  | .none _ => 0
  | .skip _ => 1
  | .byte _ => 1
  | .word _ => 2

/-- A well-formed instruction has an entry, of its own length; only STOP's operand is not read (R405). -/
theorem tableEntry_spec (i : Instr) (h : i.wellFormed = true) :
    ∃ e, tableEntry i = some e ∧ e.length = (encode i).length ∧
      (opcodeBytes i).length + operandBytes e.operand = (encode i).length ∧
      ((∃ j, e.operand = .skip j) → i = .stop) := by
  cases i <;> first
    | exact ⟨_, rfl, rfl, rfl, fun _ => rfl⟩
    | exact ⟨_, rfl, rfl, rfl, fun ⟨_, hj⟩ => by cases hj⟩
    | cases h

/-- The lookup of a well-formed instruction whose opcode bytes can be read gives its entry (R403, R404). -/
theorem fetchEntry_of_fetches {s : State} {p : Word} {i : Instr} {e : Entry} (he : tableEntry i = some e)
    (hfe : s.fetches p (opcodeBytes i)) (hp : p.toNat + (opcodeBytes i).length ≤ 0x10000) :
    fetchEntry s p = .ok ⟨opcodeOf (encode i), e⟩ := by
  unfold tableEntry at he
  unfold opcodeBytes at hfe hp
  cases hb : encode i with
  | nil => rw [hb] at he; cases he
  | cons b0 rest =>
    rw [hb] at he hfe hp
    simp only at he hfe hp
    by_cases hcb : b0 = 0xCB
    · subst hcb
      cases rest with
      | nil => cases he
      | cons b1 rest =>
        simp only [if_true, List.take_succ_cons, List.take_zero, List.length_cons, List.length_nil,
          Option.some.injEq] at he hfe hp
        obtain ⟨h0, h1, -⟩ := hfe
        simp only [fetchEntry, h0, h1, if_true, opcodeOf, he]
        rw [if_neg (by omega)]
    · rw [if_neg hcb] at he hfe
      obtain ⟨h0, -⟩ := hfe
      have ho : opcodeOf (b0 :: rest) = wordOf 0 b0 := by cases rest <;> simp only [opcodeOf, if_neg hcb]
      simp only [fetchEntry, h0, if_neg hcb, ho]
      cases hc : opCell b0 <;> simp only [hc] at he <;> cases he
      rfl

end Sys2Proof.Machine
end

