-- ==== Sys2Proof/Tests/Slice0.lean ====
section
/-! SUPPORT. Tests of the model, each on fixed values that come from the spec: the ill-formed terms, the words of the opcode maps, the
one-step vectors of 95_test_vectors.md (named after their row), the one-step checks of this file, and for each statement with
hypotheses a state and operands that meet them. -/

namespace Sys2Proof.Tests

open Sys2Proof Sys2Proof.Machine

/-! ## Helpers -/

/-- The start state of 95_test_vectors.md, its bytes at `pc`. -/
def start (pc : Nat) (code : List Byte) : State :=
  (code.zipIdx).foldl (fun s c => s.placeByte (BitVec.ofNat 16 (pc + c.2)) c.1)
    { State.reset with
      pc := BitVec.ofNat 16 pc, cart := { State.reset.cart with rom := [(0x149, 0x02)] } }

/-- `s` with bytes stored raw at bus addresses. -/
def withBus (cells : List (Nat × Byte)) (s : State) : State := cells.foldl (fun s c => s.busPoke c.1 c.2) s

/-- One step answers a next state that cost `cycles` and passes the check. -/
def answers (s : State) (cycles : Nat) (check : State → Bool) : Bool :=
  match step s with
  | .next t => t.stepCycles == cycles && check t
  | .fault _ => false
  | .refused _ => false

/-- The record a fault stops on. -/
def recordOf : Fault → Option FaultRecord
  | .pcRange _ t => t.fault
  | .spRange _ t => t.fault
  | .romBounds _ _ t => t.fault
  | .undefinedOpcode _ _ t => t.fault

/-- One step stops on the fault. -/
def stopsOn (s : State) (f : FaultRecord) : Bool :=
  match step s with
  | .next _ => false
  | .fault g => recordOf g == some f
  | .refused _ => false

/-- `MemRead` answers this byte. -/
def holds (s : State) (addr : Word) (v : Byte) : Bool := s.memRead addr == .ok v

/-! ## Well-formed instructions (R307) -/

theorem test_illFormed_undefD3 : Instr.wellFormed .undefD3 = false := by decide
theorem test_illFormed_undefDB : Instr.wellFormed .undefDB = false := by decide
theorem test_illFormed_undefDD : Instr.wellFormed .undefDD = false := by decide
theorem test_illFormed_undefE3 : Instr.wellFormed .undefE3 = false := by decide
theorem test_illFormed_undefE4 : Instr.wellFormed .undefE4 = false := by decide
theorem test_illFormed_undefEB : Instr.wellFormed .undefEB = false := by decide
theorem test_illFormed_undefEC : Instr.wellFormed .undefEC = false := by decide
theorem test_illFormed_undefED : Instr.wellFormed .undefED = false := by decide
theorem test_illFormed_undefF4 : Instr.wellFormed .undefF4 = false := by decide
theorem test_illFormed_undefFC : Instr.wellFormed .undefFC = false := by decide
theorem test_illFormed_undefFD : Instr.wellFormed .undefFD = false := by decide

theorem test_wellFormed_some : [Instr.nop, .ldBD8 0xFF, .jpA16 0xFFFF, .stop, .halt, .set7A].all Instr.wellFormed = true := by decide

/-! ## Decoding: each word written out from the spec's encoding of its row, an immediate byte 0x34, an immediate word 0x1234 -/

/-- Each byte sequence decodes to its instruction, with nothing left. -/
def decodesTo (words : List (List Byte)) (instrs : List Instr) : Bool :=
  words.map decode == instrs.map fun i => Except.ok (i, [])

theorem test_decode_op_row_0 :
    decodesTo
      [[0b00000000], [0b00000001, 0x34, 0x12], [0b00000010], [0b00000011], [0b00000100], [0b00000101],
       [0b00000110, 0x34], [0b00000111], [0b00001000, 0x34, 0x12], [0b00001001], [0b00001010], [0b00001011],
       [0b00001100], [0b00001101], [0b00001110, 0x34], [0b00001111]]
      [.nop, .ldBCD16 0x1234, .ldMemBCA, .incBC, .incB, .decB, .ldBD8 0x34, .rlca, .ldMemA16SP 0x1234, .addHLBC,
       .ldAMemBC, .decBC, .incC, .decC, .ldCD8 0x34, .rrca] = true := by
  decide
theorem test_decode_op_row_1 :
    decodesTo
      [[0b00010000, 0x00], [0b00010001, 0x34, 0x12], [0b00010010], [0b00010011], [0b00010100], [0b00010101],
       [0b00010110, 0x34], [0b00010111], [0b00011000, 0x34], [0b00011001], [0b00011010], [0b00011011], [0b00011100],
       [0b00011101], [0b00011110, 0x34], [0b00011111]]
      [.stop, .ldDED16 0x1234, .ldMemDEA, .incDE, .incD, .decD, .ldDD8 0x34, .rla, .jrR8 0x34, .addHLDE, .ldAMemDE,
       .decDE, .incE, .decE, .ldED8 0x34, .rra] = true := by
  decide
theorem test_decode_op_row_2 :
    decodesTo
      [[0b00100000, 0x34], [0b00100001, 0x34, 0x12], [0b00100010], [0b00100011], [0b00100100], [0b00100101],
       [0b00100110, 0x34], [0b00100111], [0b00101000, 0x34], [0b00101001], [0b00101010], [0b00101011], [0b00101100],
       [0b00101101], [0b00101110, 0x34], [0b00101111]]
      [.jrNzR8 0x34, .ldHLD16 0x1234, .ldMemHLIncA, .incHL, .incH, .decH, .ldHD8 0x34, .daa, .jrZR8 0x34, .addHLHL,
       .ldAMemHLInc, .decHL, .incL, .decL, .ldLD8 0x34, .cpl] = true := by
  decide
theorem test_decode_op_row_3 :
    decodesTo
      [[0b00110000, 0x34], [0b00110001, 0x34, 0x12], [0b00110010], [0b00110011], [0b00110100], [0b00110101],
       [0b00110110, 0x34], [0b00110111], [0b00111000, 0x34], [0b00111001], [0b00111010], [0b00111011], [0b00111100],
       [0b00111101], [0b00111110, 0x34], [0b00111111]]
      [.jrNcR8 0x34, .ldSPD16 0x1234, .ldMemHLDecA, .incSP, .incMemHL, .decMemHL, .ldMemHLD8 0x34, .scf,
       .jrCR8 0x34, .addHLSP, .ldAMemHLDec, .decSP, .incA, .decA, .ldAD8 0x34, .ccf] = true := by
  decide
theorem test_decode_op_row_4 :
    decodesTo
      [[0b01000000], [0b01000001], [0b01000010], [0b01000011], [0b01000100], [0b01000101], [0b01000110],
       [0b01000111], [0b01001000], [0b01001001], [0b01001010], [0b01001011], [0b01001100], [0b01001101],
       [0b01001110], [0b01001111]]
      [.ldBB, .ldBC, .ldBD, .ldBE, .ldBH, .ldBL, .ldBMemHL, .ldBA, .ldCB, .ldCC, .ldCD, .ldCE, .ldCH, .ldCL,
       .ldCMemHL, .ldCA] = true := by
  decide
theorem test_decode_op_row_5 :
    decodesTo
      [[0b01010000], [0b01010001], [0b01010010], [0b01010011], [0b01010100], [0b01010101], [0b01010110],
       [0b01010111], [0b01011000], [0b01011001], [0b01011010], [0b01011011], [0b01011100], [0b01011101],
       [0b01011110], [0b01011111]]
      [.ldDB, .ldDC, .ldDD, .ldDE, .ldDH, .ldDL, .ldDMemHL, .ldDA, .ldEB, .ldEC, .ldED, .ldEE, .ldEH, .ldEL,
       .ldEMemHL, .ldEA] = true := by
  decide
theorem test_decode_op_row_6 :
    decodesTo
      [[0b01100000], [0b01100001], [0b01100010], [0b01100011], [0b01100100], [0b01100101], [0b01100110],
       [0b01100111], [0b01101000], [0b01101001], [0b01101010], [0b01101011], [0b01101100], [0b01101101],
       [0b01101110], [0b01101111]]
      [.ldHB, .ldHC, .ldHD, .ldHE, .ldHH, .ldHL, .ldHMemHL, .ldHA, .ldLB, .ldLC, .ldLD, .ldLE, .ldLH, .ldLL,
       .ldLMemHL, .ldLA] = true := by
  decide
theorem test_decode_op_row_7 :
    decodesTo
      [[0b01110000], [0b01110001], [0b01110010], [0b01110011], [0b01110100], [0b01110101], [0b01110110],
       [0b01110111], [0b01111000], [0b01111001], [0b01111010], [0b01111011], [0b01111100], [0b01111101],
       [0b01111110], [0b01111111]]
      [.ldMemHLB, .ldMemHLC, .ldMemHLD, .ldMemHLE, .ldMemHLH, .ldMemHLL, .halt, .ldMemHLA, .ldAB, .ldAC, .ldAD,
       .ldAE, .ldAH, .ldAL, .ldAMemHL, .ldAA] = true := by
  decide
theorem test_decode_op_row_8 :
    decodesTo
      [[0b10000000], [0b10000001], [0b10000010], [0b10000011], [0b10000100], [0b10000101], [0b10000110],
       [0b10000111], [0b10001000], [0b10001001], [0b10001010], [0b10001011], [0b10001100], [0b10001101],
       [0b10001110], [0b10001111]]
      [.addAB, .addAC, .addAD, .addAE, .addAH, .addAL, .addAMemHL, .addAA, .adcAB, .adcAC, .adcAD, .adcAE, .adcAH,
       .adcAL, .adcAMemHL, .adcAA] = true := by
  decide
theorem test_decode_op_row_9 :
    decodesTo
      [[0b10010000], [0b10010001], [0b10010010], [0b10010011], [0b10010100], [0b10010101], [0b10010110],
       [0b10010111], [0b10011000], [0b10011001], [0b10011010], [0b10011011], [0b10011100], [0b10011101],
       [0b10011110], [0b10011111]]
      [.subB, .subC, .subD, .subE, .subH, .subL, .subMemHL, .subA, .sbcAB, .sbcAC, .sbcAD, .sbcAE, .sbcAH, .sbcAL,
       .sbcAMemHL, .sbcAA] = true := by
  decide
theorem test_decode_op_row_A :
    decodesTo
      [[0b10100000], [0b10100001], [0b10100010], [0b10100011], [0b10100100], [0b10100101], [0b10100110],
       [0b10100111], [0b10101000], [0b10101001], [0b10101010], [0b10101011], [0b10101100], [0b10101101],
       [0b10101110], [0b10101111]]
      [.andB, .andC, .andD, .andE, .andH, .andL, .andMemHL, .andA, .xorB, .xorC, .xorD, .xorE, .xorH, .xorL,
       .xorMemHL, .xorA] = true := by
  decide
theorem test_decode_op_row_B :
    decodesTo
      [[0b10110000], [0b10110001], [0b10110010], [0b10110011], [0b10110100], [0b10110101], [0b10110110],
       [0b10110111], [0b10111000], [0b10111001], [0b10111010], [0b10111011], [0b10111100], [0b10111101],
       [0b10111110], [0b10111111]]
      [.orB, .orC, .orD, .orE, .orH, .orL, .orMemHL, .orA, .cpB, .cpC, .cpD, .cpE, .cpH, .cpL, .cpMemHL, .cpA] = true := by
  decide
theorem test_decode_op_row_C :
    decodesTo
      [[0b11000000], [0b11000001], [0b11000010, 0x34, 0x12], [0b11000011, 0x34, 0x12], [0b11000100, 0x34, 0x12],
       [0b11000101], [0b11000110, 0x34], [0b11000111], [0b11001000], [0b11001001], [0b11001010, 0x34, 0x12],
       [0b11001100, 0x34, 0x12], [0b11001101, 0x34, 0x12], [0b11001110, 0x34], [0b11001111]]
      [.retNz, .popBC, .jpNzA16 0x1234, .jpA16 0x1234, .callNzA16 0x1234, .pushBC, .addAD8 0x34, .rst00H, .retZ,
       .ret, .jpZA16 0x1234, .callZA16 0x1234, .callA16 0x1234, .adcAD8 0x34, .rst08H] = true := by
  decide
theorem test_decode_op_row_D :
    decodesTo
      [[0b11010000], [0b11010001], [0b11010010, 0x34, 0x12], [0b11010011], [0b11010100, 0x34, 0x12], [0b11010101],
       [0b11010110, 0x34], [0b11010111], [0b11011000], [0b11011001], [0b11011010, 0x34, 0x12], [0b11011011],
       [0b11011100, 0x34, 0x12], [0b11011101], [0b11011110, 0x34], [0b11011111]]
      [.retNc, .popDE, .jpNcA16 0x1234, .undefD3, .callNcA16 0x1234, .pushDE, .subD8 0x34, .rst10H, .retC, .reti,
       .jpCA16 0x1234, .undefDB, .callCA16 0x1234, .undefDD, .sbcAD8 0x34, .rst18H] = true := by
  decide
theorem test_decode_op_row_E :
    decodesTo
      [[0b11100000, 0x34], [0b11100001], [0b11100010], [0b11100011], [0b11100100], [0b11100101], [0b11100110, 0x34],
       [0b11100111], [0b11101000, 0x34], [0b11101001], [0b11101010, 0x34, 0x12], [0b11101011], [0b11101100],
       [0b11101101], [0b11101110, 0x34], [0b11101111]]
      [.ldhMemA8A 0x34, .popHL, .ldMemCA, .undefE3, .undefE4, .pushHL, .andD8 0x34, .rst20H, .addSPR8 0x34, .jpHL,
       .ldMemA16A 0x1234, .undefEB, .undefEC, .undefED, .xorD8 0x34, .rst28H] = true := by
  decide
theorem test_decode_op_row_F :
    decodesTo
      [[0b11110000, 0x34], [0b11110001], [0b11110010], [0b11110011], [0b11110100], [0b11110101], [0b11110110, 0x34],
       [0b11110111], [0b11111000, 0x34], [0b11111001], [0b11111010, 0x34, 0x12], [0b11111011], [0b11111100],
       [0b11111101], [0b11111110, 0x34], [0b11111111]]
      [.ldhAMemA8 0x34, .popAF, .ldAMemC, .di, .undefF4, .pushAF, .orD8 0x34, .rst30H, .ldHLSPR8 0x34, .ldSPHL,
       .ldAMemA16 0x1234, .ei, .undefFC, .undefFD, .cpD8 0x34, .rst38H] = true := by
  decide
theorem test_decode_cb_row_0 :
    decodesTo
      [[0b11001011, 0b00000000], [0b11001011, 0b00000001], [0b11001011, 0b00000010], [0b11001011, 0b00000011],
       [0b11001011, 0b00000100], [0b11001011, 0b00000101], [0b11001011, 0b00000110], [0b11001011, 0b00000111],
       [0b11001011, 0b00001000], [0b11001011, 0b00001001], [0b11001011, 0b00001010], [0b11001011, 0b00001011],
       [0b11001011, 0b00001100], [0b11001011, 0b00001101], [0b11001011, 0b00001110], [0b11001011, 0b00001111]]
      [.rlcB, .rlcC, .rlcD, .rlcE, .rlcH, .rlcL, .rlcMemHL, .rlcA, .rrcB, .rrcC, .rrcD, .rrcE, .rrcH, .rrcL,
       .rrcMemHL, .rrcA] = true := by
  decide
theorem test_decode_cb_row_1 :
    decodesTo
      [[0b11001011, 0b00010000], [0b11001011, 0b00010001], [0b11001011, 0b00010010], [0b11001011, 0b00010011],
       [0b11001011, 0b00010100], [0b11001011, 0b00010101], [0b11001011, 0b00010110], [0b11001011, 0b00010111],
       [0b11001011, 0b00011000], [0b11001011, 0b00011001], [0b11001011, 0b00011010], [0b11001011, 0b00011011],
       [0b11001011, 0b00011100], [0b11001011, 0b00011101], [0b11001011, 0b00011110], [0b11001011, 0b00011111]]
      [.rlB, .rlC, .rlD, .rlE, .rlH, .rlL, .rlMemHL, .rlA, .rrB, .rrC, .rrD, .rrE, .rrH, .rrL, .rrMemHL, .rrA] = true := by
  decide
theorem test_decode_cb_row_2 :
    decodesTo
      [[0b11001011, 0b00100000], [0b11001011, 0b00100001], [0b11001011, 0b00100010], [0b11001011, 0b00100011],
       [0b11001011, 0b00100100], [0b11001011, 0b00100101], [0b11001011, 0b00100110], [0b11001011, 0b00100111],
       [0b11001011, 0b00101000], [0b11001011, 0b00101001], [0b11001011, 0b00101010], [0b11001011, 0b00101011],
       [0b11001011, 0b00101100], [0b11001011, 0b00101101], [0b11001011, 0b00101110], [0b11001011, 0b00101111]]
      [.slaB, .slaC, .slaD, .slaE, .slaH, .slaL, .slaMemHL, .slaA, .sraB, .sraC, .sraD, .sraE, .sraH, .sraL,
       .sraMemHL, .sraA] = true := by
  decide
theorem test_decode_cb_row_3 :
    decodesTo
      [[0b11001011, 0b00110000], [0b11001011, 0b00110001], [0b11001011, 0b00110010], [0b11001011, 0b00110011],
       [0b11001011, 0b00110100], [0b11001011, 0b00110101], [0b11001011, 0b00110110], [0b11001011, 0b00110111],
       [0b11001011, 0b00111000], [0b11001011, 0b00111001], [0b11001011, 0b00111010], [0b11001011, 0b00111011],
       [0b11001011, 0b00111100], [0b11001011, 0b00111101], [0b11001011, 0b00111110], [0b11001011, 0b00111111]]
      [.swapB, .swapC, .swapD, .swapE, .swapH, .swapL, .swapMemHL, .swapA, .srlB, .srlC, .srlD, .srlE, .srlH, .srlL,
       .srlMemHL, .srlA] = true := by
  decide
theorem test_decode_cb_row_4 :
    decodesTo
      [[0b11001011, 0b01000000], [0b11001011, 0b01000001], [0b11001011, 0b01000010], [0b11001011, 0b01000011],
       [0b11001011, 0b01000100], [0b11001011, 0b01000101], [0b11001011, 0b01000110], [0b11001011, 0b01000111],
       [0b11001011, 0b01001000], [0b11001011, 0b01001001], [0b11001011, 0b01001010], [0b11001011, 0b01001011],
       [0b11001011, 0b01001100], [0b11001011, 0b01001101], [0b11001011, 0b01001110], [0b11001011, 0b01001111]]
      [.bit0B, .bit0C, .bit0D, .bit0E, .bit0H, .bit0L, .bit0MemHL, .bit0A, .bit1B, .bit1C, .bit1D, .bit1E, .bit1H,
       .bit1L, .bit1MemHL, .bit1A] = true := by
  decide
theorem test_decode_cb_row_5 :
    decodesTo
      [[0b11001011, 0b01010000], [0b11001011, 0b01010001], [0b11001011, 0b01010010], [0b11001011, 0b01010011],
       [0b11001011, 0b01010100], [0b11001011, 0b01010101], [0b11001011, 0b01010110], [0b11001011, 0b01010111],
       [0b11001011, 0b01011000], [0b11001011, 0b01011001], [0b11001011, 0b01011010], [0b11001011, 0b01011011],
       [0b11001011, 0b01011100], [0b11001011, 0b01011101], [0b11001011, 0b01011110], [0b11001011, 0b01011111]]
      [.bit2B, .bit2C, .bit2D, .bit2E, .bit2H, .bit2L, .bit2MemHL, .bit2A, .bit3B, .bit3C, .bit3D, .bit3E, .bit3H,
       .bit3L, .bit3MemHL, .bit3A] = true := by
  decide
theorem test_decode_cb_row_6 :
    decodesTo
      [[0b11001011, 0b01100000], [0b11001011, 0b01100001], [0b11001011, 0b01100010], [0b11001011, 0b01100011],
       [0b11001011, 0b01100100], [0b11001011, 0b01100101], [0b11001011, 0b01100110], [0b11001011, 0b01100111],
       [0b11001011, 0b01101000], [0b11001011, 0b01101001], [0b11001011, 0b01101010], [0b11001011, 0b01101011],
       [0b11001011, 0b01101100], [0b11001011, 0b01101101], [0b11001011, 0b01101110], [0b11001011, 0b01101111]]
      [.bit4B, .bit4C, .bit4D, .bit4E, .bit4H, .bit4L, .bit4MemHL, .bit4A, .bit5B, .bit5C, .bit5D, .bit5E, .bit5H,
       .bit5L, .bit5MemHL, .bit5A] = true := by
  decide
theorem test_decode_cb_row_7 :
    decodesTo
      [[0b11001011, 0b01110000], [0b11001011, 0b01110001], [0b11001011, 0b01110010], [0b11001011, 0b01110011],
       [0b11001011, 0b01110100], [0b11001011, 0b01110101], [0b11001011, 0b01110110], [0b11001011, 0b01110111],
       [0b11001011, 0b01111000], [0b11001011, 0b01111001], [0b11001011, 0b01111010], [0b11001011, 0b01111011],
       [0b11001011, 0b01111100], [0b11001011, 0b01111101], [0b11001011, 0b01111110], [0b11001011, 0b01111111]]
      [.bit6B, .bit6C, .bit6D, .bit6E, .bit6H, .bit6L, .bit6MemHL, .bit6A, .bit7B, .bit7C, .bit7D, .bit7E, .bit7H,
       .bit7L, .bit7MemHL, .bit7A] = true := by
  decide
theorem test_decode_cb_row_8 :
    decodesTo
      [[0b11001011, 0b10000000], [0b11001011, 0b10000001], [0b11001011, 0b10000010], [0b11001011, 0b10000011],
       [0b11001011, 0b10000100], [0b11001011, 0b10000101], [0b11001011, 0b10000110], [0b11001011, 0b10000111],
       [0b11001011, 0b10001000], [0b11001011, 0b10001001], [0b11001011, 0b10001010], [0b11001011, 0b10001011],
       [0b11001011, 0b10001100], [0b11001011, 0b10001101], [0b11001011, 0b10001110], [0b11001011, 0b10001111]]
      [.res0B, .res0C, .res0D, .res0E, .res0H, .res0L, .res0MemHL, .res0A, .res1B, .res1C, .res1D, .res1E, .res1H,
       .res1L, .res1MemHL, .res1A] = true := by
  decide
theorem test_decode_cb_row_9 :
    decodesTo
      [[0b11001011, 0b10010000], [0b11001011, 0b10010001], [0b11001011, 0b10010010], [0b11001011, 0b10010011],
       [0b11001011, 0b10010100], [0b11001011, 0b10010101], [0b11001011, 0b10010110], [0b11001011, 0b10010111],
       [0b11001011, 0b10011000], [0b11001011, 0b10011001], [0b11001011, 0b10011010], [0b11001011, 0b10011011],
       [0b11001011, 0b10011100], [0b11001011, 0b10011101], [0b11001011, 0b10011110], [0b11001011, 0b10011111]]
      [.res2B, .res2C, .res2D, .res2E, .res2H, .res2L, .res2MemHL, .res2A, .res3B, .res3C, .res3D, .res3E, .res3H,
       .res3L, .res3MemHL, .res3A] = true := by
  decide
theorem test_decode_cb_row_A :
    decodesTo
      [[0b11001011, 0b10100000], [0b11001011, 0b10100001], [0b11001011, 0b10100010], [0b11001011, 0b10100011],
       [0b11001011, 0b10100100], [0b11001011, 0b10100101], [0b11001011, 0b10100110], [0b11001011, 0b10100111],
       [0b11001011, 0b10101000], [0b11001011, 0b10101001], [0b11001011, 0b10101010], [0b11001011, 0b10101011],
       [0b11001011, 0b10101100], [0b11001011, 0b10101101], [0b11001011, 0b10101110], [0b11001011, 0b10101111]]
      [.res4B, .res4C, .res4D, .res4E, .res4H, .res4L, .res4MemHL, .res4A, .res5B, .res5C, .res5D, .res5E, .res5H,
       .res5L, .res5MemHL, .res5A] = true := by
  decide
theorem test_decode_cb_row_B :
    decodesTo
      [[0b11001011, 0b10110000], [0b11001011, 0b10110001], [0b11001011, 0b10110010], [0b11001011, 0b10110011],
       [0b11001011, 0b10110100], [0b11001011, 0b10110101], [0b11001011, 0b10110110], [0b11001011, 0b10110111],
       [0b11001011, 0b10111000], [0b11001011, 0b10111001], [0b11001011, 0b10111010], [0b11001011, 0b10111011],
       [0b11001011, 0b10111100], [0b11001011, 0b10111101], [0b11001011, 0b10111110], [0b11001011, 0b10111111]]
      [.res6B, .res6C, .res6D, .res6E, .res6H, .res6L, .res6MemHL, .res6A, .res7B, .res7C, .res7D, .res7E, .res7H,
       .res7L, .res7MemHL, .res7A] = true := by
  decide
theorem test_decode_cb_row_C :
    decodesTo
      [[0b11001011, 0b11000000], [0b11001011, 0b11000001], [0b11001011, 0b11000010], [0b11001011, 0b11000011],
       [0b11001011, 0b11000100], [0b11001011, 0b11000101], [0b11001011, 0b11000110], [0b11001011, 0b11000111],
       [0b11001011, 0b11001000], [0b11001011, 0b11001001], [0b11001011, 0b11001010], [0b11001011, 0b11001011],
       [0b11001011, 0b11001100], [0b11001011, 0b11001101], [0b11001011, 0b11001110], [0b11001011, 0b11001111]]
      [.set0B, .set0C, .set0D, .set0E, .set0H, .set0L, .set0MemHL, .set0A, .set1B, .set1C, .set1D, .set1E, .set1H,
       .set1L, .set1MemHL, .set1A] = true := by
  decide
theorem test_decode_cb_row_D :
    decodesTo
      [[0b11001011, 0b11010000], [0b11001011, 0b11010001], [0b11001011, 0b11010010], [0b11001011, 0b11010011],
       [0b11001011, 0b11010100], [0b11001011, 0b11010101], [0b11001011, 0b11010110], [0b11001011, 0b11010111],
       [0b11001011, 0b11011000], [0b11001011, 0b11011001], [0b11001011, 0b11011010], [0b11001011, 0b11011011],
       [0b11001011, 0b11011100], [0b11001011, 0b11011101], [0b11001011, 0b11011110], [0b11001011, 0b11011111]]
      [.set2B, .set2C, .set2D, .set2E, .set2H, .set2L, .set2MemHL, .set2A, .set3B, .set3C, .set3D, .set3E, .set3H,
       .set3L, .set3MemHL, .set3A] = true := by
  decide
theorem test_decode_cb_row_E :
    decodesTo
      [[0b11001011, 0b11100000], [0b11001011, 0b11100001], [0b11001011, 0b11100010], [0b11001011, 0b11100011],
       [0b11001011, 0b11100100], [0b11001011, 0b11100101], [0b11001011, 0b11100110], [0b11001011, 0b11100111],
       [0b11001011, 0b11101000], [0b11001011, 0b11101001], [0b11001011, 0b11101010], [0b11001011, 0b11101011],
       [0b11001011, 0b11101100], [0b11001011, 0b11101101], [0b11001011, 0b11101110], [0b11001011, 0b11101111]]
      [.set4B, .set4C, .set4D, .set4E, .set4H, .set4L, .set4MemHL, .set4A, .set5B, .set5C, .set5D, .set5E, .set5H,
       .set5L, .set5MemHL, .set5A] = true := by
  decide
theorem test_decode_cb_row_F :
    decodesTo
      [[0b11001011, 0b11110000], [0b11001011, 0b11110001], [0b11001011, 0b11110010], [0b11001011, 0b11110011],
       [0b11001011, 0b11110100], [0b11001011, 0b11110101], [0b11001011, 0b11110110], [0b11001011, 0b11110111],
       [0b11001011, 0b11111000], [0b11001011, 0b11111001], [0b11001011, 0b11111010], [0b11001011, 0b11111011],
       [0b11001011, 0b11111100], [0b11001011, 0b11111101], [0b11001011, 0b11111110], [0b11001011, 0b11111111]]
      [.set6B, .set6C, .set6D, .set6E, .set6H, .set6L, .set6MemHL, .set6A, .set7B, .set7C, .set7D, .set7E, .set7H,
       .set7L, .set7MemHL, .set7A] = true := by
  decide

theorem test_decode_too_short :
    decode [] = .error .noOpcodeByte ∧ decode [0xCB] = .error .noPrefixedByte ∧ decode [0xC3, 0x34] = .error .noOperandByte ∧
      decode [0x10] = .error .noOperandByte := by
  decide

theorem test_decode_leaves_rest : decode [0x3E, 0x42, 0x76] = .ok (.ldAD8 0x42, [0x76]) := by decide

/-- The table's numbering: a prefix row is the 16-bit value 0xCB00 + b1 (R312); a one-byte row's immediate is above it (log 10). -/
theorem test_decodeTableWord :
    decodeTableWord 16 0xCB66 = some .bit4MemHL ∧ decodeTableWord 8 0x41 = some .ldBC ∧
      decodeTableWord 16 0x423E = some (.ldAD8 0x42) ∧ decodeTableWord 24 0x1234C3 = some (.jpA16 0x1234) ∧
      decodeTableWord 8 0xD3 = some .undefD3 := by
  decide

theorem test_withFetchWord_runs :
    answers (State.reset.withFetchWord 8 0x3C) 4 (fun t => t.regs.a == 0x02) = true ∧
      answers (State.reset.withFetchWord 16 0xCB37) 8 (fun t => t.regs.a == 0x10) = true ∧
      answers ({ State.reset with pc := 0xA000 }.withFetchWord 8 0x3C) 4 (fun t => t.regs.a == 0x02) = true := by
  decide

/-! ## The one-step vectors of 95_test_vectors.md -/

theorem test_v20_1_ld_a16_a_0x00_to_0x2000 :
    answers
      { start 0x0150 [0xEA, 0x00, 0x20] with
        regs := { State.reset.regs with a := 0x00 } }
      16 (fun t => t.bank.romBank == 1) = true := by
  decide

theorem test_v20_2_ld_a16_a_0x20_to_0x2000 :
    answers
      { start 0x0150 [0xEA, 0x00, 0x20] with
        regs := { State.reset.regs with a := 0x20 } }
      16 (fun t => t.bank.romBank == 1) = true := by
  decide

theorem test_v20_3_ld_a16_a_0x01_to_0x4000_rom_mode :
    answers
      { start 0x0150 [0xEA, 0x00, 0x40] with
        regs := { State.reset.regs with a := 0x01 } }
      16 (fun t => t.bank.romBank == 33) = true := by
  decide

theorem test_v20_7_undefined_opcode_0xd3 :
    stopsOn
      (start 0x0150 [0xD3])
      (.undefinedOpcode 0xD3 0x0150) = true := by
  decide

theorem test_v41_1_ld_b_c :
    answers
      { start 0x0150 [0x41] with
        regs := { State.reset.regs with c := 0x5A } }
      4 (fun t => t.regs.b == 0x5A && t.pc == 0x0151) = true := by
  decide

theorem test_v41_2_ld_hl_a :
    answers
      { start 0x0150 [0x77] with
        regs := { State.reset.regs with h := 0xC0, l := 0x00, a := 0x99 } }
      8 (fun t => t.pc == 0x0151 && holds t 0xC000 0x99) = true := by
  decide

theorem test_v41_3_ld_a_hl :
    answers
      { withBus [(0xC000, 0x3C)] (start 0x0150 [0x7E]) with
        regs := { State.reset.regs with h := 0xC0, l := 0x00 } }
      8 (fun t => t.regs.a == 0x3C) = true := by
  decide

theorem test_v41_4_ld_hl_d8 :
    answers
      { start 0x0150 [0x36, 0x77] with
        regs := { State.reset.regs with h := 0xD0, l := 0x00 } }
      12 (fun t => t.pc == 0x0152 && holds t 0xD000 0x77) = true := by
  decide

theorem test_v41_5_ld_memhlinc_a :
    answers
      { start 0x0150 [0x22] with
        regs := { State.reset.regs with h := 0xFF, l := 0xFF, a := 0x01 } }
      8 (fun t => t.regs.hl == 0x0000 && holds t 0xFFFF 0x01) = true := by
  decide

theorem test_v41_6_ld_a_memhldec :
    answers
      { start 0x0150 [0x3A] with
        regs := { State.reset.regs with h := 0x00, l := 0x00 } }
      8 (fun t => t.regs.a == 0x00 && t.regs.hl == 0xFFFF) = true := by
  decide

theorem test_v41_7_ldh_a8_a :
    answers
      { start 0x0150 [0xE0, 0x80] with
        regs := { State.reset.regs with a := 0x12 } }
      12 (fun t => t.pc == 0x0152 && holds t 0xFF80 0x12) = true := by
  decide

theorem test_v41_8_ldh_a_c :
    answers
      { start 0x0150 [0xF2] with
        regs := { State.reset.regs with c := 0x44 } }
      8 (fun t => t.regs.a == 0x00) = true := by
  decide

theorem test_v41_9_ld_a16_a :
    answers
      { start 0x0150 [0xEA, 0x00, 0xC1] with
        regs := { State.reset.regs with a := 0xAB } }
      16 (fun t => t.pc == 0x0153 && holds t 0xC100 0xAB) = true := by
  decide

theorem test_v41_10_ldh_a8_a_to_ly :
    answers
      { start 0x0150 [0xE0, 0x44] with
        regs := { State.reset.regs with a := 0x99 } }
      12 (fun t => t.pc == 0x0152 && holds t 0xFF44 0x00) = true := by
  decide

theorem test_v41_11_ldh_a8_a_to_stat :
    answers
      { start 0x0150 [0xE0, 0x41] with
        regs := { State.reset.regs with a := 0xFF } }
      12 (fun t => t.pc == 0x0152 && holds t 0xFF41 0xFE) = true := by
  decide

theorem test_v41_13_ld_hl_a_at_0x7fff_bank_controller_write_no_rom_change :
    answers
      { start 0x0150 [0x77] with
        regs := { State.reset.regs with h := 0x7F, l := 0xFF, a := 0x01 } }
      8 (fun t => t.bank.bankingMode == .ramBanking && t.pc == 0x0151) = true := by
  decide

theorem test_v42_1_ld_bc_d16 :
    answers
      (start 0x0150 [0x01, 0x34, 0x12])
      12 (fun t => t.regs.bc == 0x1234 && t.pc == 0x0153) = true := by
  decide

theorem test_v42_2_ld_a16_sp :
    answers
      { start 0x0150 [0x08, 0x00, 0xC0] with
        sp := 0xFFFE }
      20 (fun t => t.pc == 0x0153 && holds t 0xC000 0xFE && holds t 0xC001 0xFF) = true := by
  decide

theorem test_v42_3_push_bc :
    answers
      { start 0x0150 [0xC5] with
        regs := { State.reset.regs with b := 0x12, c := 0x34 }
        sp := 0xFFFE }
      16 (fun t => t.sp == 0xFFFC && holds t 0xFFFD 0x12 && holds t 0xFFFC 0x34) = true := by
  decide

theorem test_v42_4_pop_af :
    answers
      { withBus [(0xC000, 0xFF), (0xC001, 0x12)] (start 0x0150 [0xF1]) with
        sp := 0xC000 }
      12 (fun t => t.regs.a == 0x12 && t.flags.toByte == 0xF0 && t.sp == 0xC002) = true := by
  decide

theorem test_v42_5_push_bc_at_sp_0x0001 :
    stopsOn
      { start 0x0150 [0xC5] with
        sp := 0x0001 }
      (.spRange (-1)) = true := by
  decide

theorem test_v42_6_pop_bc_at_sp_0xfffe :
    stopsOn
      { start 0x0150 [0xC1] with
        sp := 0xFFFE }
      (.spRange (0x10000)) = true := by
  decide

theorem test_v42_7_ld_sp_hl :
    answers
      { start 0x0150 [0xF9] with
        regs := { State.reset.regs with h := 0xC1, l := 0x23 } }
      8 (fun t => t.sp == 0xC123) = true := by
  decide

theorem test_v43_1_add_a_b :
    answers
      { start 0x0150 [0x80] with
        regs := { State.reset.regs with a := 0x0F, b := 0x01 }
        flags := Flags.ofByte 0x00 }
      4 (fun t => t.regs.a == 0x10 && t.flags.toByte == 0x20) = true := by
  decide

theorem test_v43_2_sub_a :
    answers
      { start 0x0150 [0x97] with
        regs := { State.reset.regs with a := 0x3C } }
      4 (fun t => t.regs.a == 0x00 && t.flags.toByte == 0xC0) = true := by
  decide

theorem test_v43_3_add_a_d8 :
    answers
      { start 0x0150 [0xC6, 0x01] with
        regs := { State.reset.regs with a := 0xFF } }
      8 (fun t => t.regs.a == 0x00 && t.flags.toByte == 0xB0) = true := by
  decide

theorem test_v43_4_adc_a_d8 :
    answers
      { start 0x0150 [0xCE, 0x00] with
        regs := { State.reset.regs with a := 0x0F }
        flags := { State.reset.flags with c := true } }
      8 (fun t => t.regs.a == 0x10 && t.flags.toByte == 0x20) = true := by
  decide

theorem test_v43_5_adc_a_d8 :
    answers
      { start 0x0150 [0xCE, 0xFF] with
        regs := { State.reset.regs with a := 0x00 }
        flags := { State.reset.flags with c := true } }
      8 (fun t => t.regs.a == 0x00 && t.flags.toByte == 0xB0) = true := by
  decide

theorem test_v43_6_sbc_a_d8 :
    answers
      { start 0x0150 [0xDE, 0x00] with
        regs := { State.reset.regs with a := 0x10 }
        flags := { State.reset.flags with c := true } }
      8 (fun t => t.regs.a == 0x0F && t.flags.toByte == 0x60) = true := by
  decide

theorem test_v43_7_sbc_a_d8 :
    answers
      { start 0x0150 [0xDE, 0xFF] with
        regs := { State.reset.regs with a := 0x00 }
        flags := { State.reset.flags with c := true } }
      8 (fun t => t.regs.a == 0x00 && t.flags.toByte == 0xF0) = true := by
  decide

theorem test_v43_8_sub_d8 :
    answers
      { start 0x0150 [0xD6, 0x01] with
        regs := { State.reset.regs with a := 0x00 } }
      8 (fun t => t.regs.a == 0xFF && t.flags.toByte == 0x70) = true := by
  decide

theorem test_v43_9_and_d8 :
    answers
      { start 0x0150 [0xE6, 0x0F] with
        regs := { State.reset.regs with a := 0xF0 } }
      8 (fun t => t.regs.a == 0x00 && t.flags.toByte == 0xA0) = true := by
  decide

theorem test_v43_10_xor_a :
    answers
      { start 0x0150 [0xAF] with
        regs := { State.reset.regs with a := 0x5A }
        flags := Flags.ofByte 0x70 }
      4 (fun t => t.regs.a == 0x00 && t.flags.toByte == 0x80) = true := by
  decide

theorem test_v43_11_or_b :
    answers
      { start 0x0150 [0xB0] with
        regs := { State.reset.regs with a := 0x00, b := 0x00 }
        flags := Flags.ofByte 0x70 }
      4 (fun t => t.regs.a == 0x00 && t.flags.toByte == 0x80) = true := by
  decide

theorem test_v43_12_cp_d8 :
    answers
      { start 0x0150 [0xFE, 0x3C] with
        regs := { State.reset.regs with a := 0x3C } }
      8 (fun t => t.regs.a == 0x3C && t.flags.toByte == 0xC0) = true := by
  decide

theorem test_v43_13_cp_d8 :
    answers
      { start 0x0150 [0xFE, 0x40] with
        regs := { State.reset.regs with a := 0x3C } }
      8 (fun t => t.regs.a == 0x3C && t.flags.toByte == 0x50) = true := by
  decide

theorem test_v43_14_inc_a :
    answers
      { start 0x0150 [0x3C] with
        regs := { State.reset.regs with a := 0xFF }
        flags := { State.reset.flags with c := true } }
      4 (fun t => t.regs.a == 0x00 && t.flags.toByte == 0xB0) = true := by
  decide

theorem test_v43_15_dec_b :
    answers
      { start 0x0150 [0x05] with
        regs := { State.reset.regs with b := 0x10 }
        flags := Flags.ofByte 0x00 }
      4 (fun t => t.regs.b == 0x0F && t.flags.toByte == 0x60) = true := by
  decide

theorem test_v43_16_dec_b :
    answers
      { start 0x0150 [0x05] with
        regs := { State.reset.regs with b := 0x01 }
        flags := Flags.ofByte 0x00 }
      4 (fun t => t.regs.b == 0x00 && t.flags.toByte == 0xC0) = true := by
  decide

theorem test_v43_17_inc_hl :
    answers
      { withBus [(0xC000, 0x0F)] (start 0x0150 [0x34]) with
        regs := { State.reset.regs with h := 0xC0, l := 0x00 } }
      12 (fun t => holds t 0xC000 0x10) = true := by
  decide

theorem test_v43_21_cpl :
    answers
      { start 0x0150 [0x2F] with
        regs := { State.reset.regs with a := 0x35 }
        flags := Flags.ofByte 0x00 }
      4 (fun t => t.regs.a == 0xCA && t.flags.toByte == 0x60) = true := by
  decide

theorem test_v43_22_scf :
    answers
      { start 0x0150 [0x37] with
        flags := Flags.ofByte 0x80 }
      4 (fun t => t.flags.toByte == 0x90) = true := by
  decide

theorem test_v43_23_ccf :
    answers
      { start 0x0150 [0x3F] with
        flags := Flags.ofByte 0xF0 }
      4 (fun t => t.flags.toByte == 0x80) = true := by
  decide

theorem test_v44_1_add_hl_bc :
    answers
      { start 0x0150 [0x09] with
        regs := { State.reset.regs with h := 0x0F, l := 0xFF, b := 0x00, c := 0x01 }
        flags := Flags.ofByte 0x80 }
      8 (fun t => t.regs.hl == 0x1000 && t.flags.toByte == 0xA0) = true := by
  decide

theorem test_v44_2_add_hl_bc :
    answers
      { start 0x0150 [0x09] with
        regs := { State.reset.regs with h := 0xFF, l := 0xFF, b := 0x00, c := 0x01 }
        flags := Flags.ofByte 0x00 }
      8 (fun t => t.regs.hl == 0x0000 && t.flags.toByte == 0x30) = true := by
  decide

theorem test_v44_3_add_hl_hl :
    answers
      { start 0x0150 [0x29] with
        regs := { State.reset.regs with h := 0x80, l := 0x00 }
        flags := Flags.ofByte 0x00 }
      8 (fun t => t.regs.hl == 0x0000 && t.flags.toByte == 0x10) = true := by
  decide

theorem test_v44_4_inc_bc :
    answers
      { start 0x0150 [0x03] with
        regs := { State.reset.regs with b := 0xFF, c := 0xFF }
        flags := Flags.ofByte 0x00 }
      8 (fun t => t.regs.bc == 0x0000 && t.flags.toByte == 0x00) = true := by
  decide

theorem test_v44_5_dec_sp :
    stopsOn
      { start 0x0150 [0x3B] with
        sp := 0x0000 }
      (.spRange (-1)) = true := by
  decide

theorem test_v44_6_inc_sp :
    stopsOn
      { start 0x0150 [0x33] with
        sp := 0xFFFF }
      (.spRange (0x10000)) = true := by
  decide

theorem test_v44_7_add_sp_r8 :
    answers
      { start 0x0150 [0xE8, 0x01] with
        flags := Flags.ofByte 0xF0
        sp := 0x00FF }
      16 (fun t => t.sp == 0x0100 && t.flags.toByte == 0x30) = true := by
  decide

theorem test_v44_8_add_sp_r8 :
    answers
      { start 0x0150 [0xE8, 0xFF] with
        sp := 0x0001 }
      16 (fun t => t.sp == 0x0000 && t.flags.toByte == 0x30) = true := by
  decide

theorem test_v44_9_add_sp_r8 :
    stopsOn
      { start 0x0150 [0xE8, 0xFF] with
        sp := 0x0000 }
      (.spRange (-1)) = true := by
  decide

theorem test_v44_10_ld_hl_sp_r8 :
    answers
      { start 0x0150 [0xF8, 0x08] with
        sp := 0xFFF8 }
      12 (fun t => t.regs.hl == 0x0000 && t.sp == 0xFFF8 && t.flags.toByte == 0x30) = true := by
  decide

theorem test_v44_11_ld_hl_sp_r8 :
    answers
      { start 0x0150 [0xF8, 0x80] with
        sp := 0x0000 }
      12 (fun t => t.regs.hl == 0xFF80 && t.flags.toByte == 0x00) = true := by
  decide

theorem test_v45_1_rlca :
    answers
      { start 0x0150 [0x07] with
        regs := { State.reset.regs with a := 0x80 }
        flags := Flags.ofByte 0x00 }
      4 (fun t => t.regs.a == 0x01 && t.flags.toByte == 0x10) = true := by
  decide

theorem test_v45_2_rla :
    answers
      { start 0x0150 [0x17] with
        regs := { State.reset.regs with a := 0x80 }
        flags := Flags.ofByte 0x00 }
      4 (fun t => t.regs.a == 0x00 && t.flags.toByte == 0x10) = true := by
  decide

theorem test_v45_3_rrca :
    answers
      { start 0x0150 [0x0F] with
        regs := { State.reset.regs with a := 0x01 }
        flags := Flags.ofByte 0x00 }
      4 (fun t => t.regs.a == 0x80 && t.flags.toByte == 0x10) = true := by
  decide

theorem test_v45_4_rra :
    answers
      { start 0x0150 [0x1F] with
        regs := { State.reset.regs with a := 0x00 }
        flags := { State.reset.flags with c := true } }
      4 (fun t => t.regs.a == 0x80 && t.flags.toByte == 0x00) = true := by
  decide

theorem test_v45_5_rlc_a :
    answers
      { start 0x0150 [0xCB, 0x07] with
        regs := { State.reset.regs with a := 0x00 }
        flags := Flags.ofByte 0x00 }
      8 (fun t => t.regs.a == 0x00 && t.flags.toByte == 0x80) = true := by
  decide

theorem test_v45_6_rl_a :
    answers
      { start 0x0150 [0xCB, 0x17] with
        regs := { State.reset.regs with a := 0x80 }
        flags := Flags.ofByte 0x00 }
      8 (fun t => t.regs.a == 0x00 && t.flags.toByte == 0x90) = true := by
  decide

theorem test_v45_7_rr_hl :
    answers
      { withBus [(0xC000, 0x01)] (start 0x0150 [0xCB, 0x1E]) with
        regs := { State.reset.regs with h := 0xC0, l := 0x00 }
        flags := Flags.ofByte 0x00 }
      16 (fun t => t.flags.toByte == 0x90 && holds t 0xC000 0x00) = true := by
  decide

theorem test_v45_8_sla_b :
    answers
      { start 0x0150 [0xCB, 0x20] with
        regs := { State.reset.regs with b := 0x80 } }
      8 (fun t => t.regs.b == 0x00 && t.flags.toByte == 0x90) = true := by
  decide

theorem test_v45_9_sra_b :
    answers
      { start 0x0150 [0xCB, 0x28] with
        regs := { State.reset.regs with b := 0x81 } }
      8 (fun t => t.regs.b == 0xC0 && t.flags.toByte == 0x10) = true := by
  decide

theorem test_v45_10_srl_b :
    answers
      { start 0x0150 [0xCB, 0x38] with
        regs := { State.reset.regs with b := 0x01 } }
      8 (fun t => t.regs.b == 0x00 && t.flags.toByte == 0x90) = true := by
  decide

theorem test_v45_11_swap_a :
    answers
      { start 0x0150 [0xCB, 0x37] with
        regs := { State.reset.regs with a := 0xF1 }
        flags := Flags.ofByte 0xF0 }
      8 (fun t => t.regs.a == 0x1F && t.flags.toByte == 0x00) = true := by
  decide

theorem test_v45_12_swap_a :
    answers
      { start 0x0150 [0xCB, 0x37] with
        regs := { State.reset.regs with a := 0x00 }
        flags := Flags.ofByte 0x00 }
      8 (fun t => t.regs.a == 0x00 && t.flags.toByte == 0x80) = true := by
  decide

theorem test_v46_1_bit_7_h :
    answers
      { start 0x0150 [0xCB, 0x7C] with
        regs := { State.reset.regs with h := 0x80 }
        flags := Flags.ofByte 0x10 }
      8 (fun t => t.flags.toByte == 0x30) = true := by
  decide

theorem test_v46_2_bit_0_a :
    answers
      { start 0x0150 [0xCB, 0x47] with
        regs := { State.reset.regs with a := 0x00 }
        flags := Flags.ofByte 0x00 }
      8 (fun t => t.flags.toByte == 0xA0) = true := by
  decide

theorem test_v46_3_bit_3_hl :
    answers
      { withBus [(0xC000, 0x08)] (start 0x0150 [0xCB, 0x5E]) with
        regs := { State.reset.regs with h := 0xC0, l := 0x00 }
        flags := Flags.ofByte 0x00 }
      12 (fun t => t.flags.toByte == 0x20) = true := by
  decide

theorem test_v46_4_res_0_hl :
    answers
      { withBus [(0xC000, 0xFF)] (start 0x0150 [0xCB, 0x86]) with
        regs := { State.reset.regs with h := 0xC0, l := 0x00 }
        flags := Flags.ofByte 0xF0 }
      16 (fun t => t.flags.toByte == 0xF0 && holds t 0xC000 0xFE) = true := by
  decide

theorem test_v46_5_set_7_a :
    answers
      { start 0x0150 [0xCB, 0xFF] with
        regs := { State.reset.regs with a := 0x00 } }
      8 (fun t => t.regs.a == 0x80) = true := by
  decide

theorem test_v47_1_jp_a16 :
    answers
      (start 0x0150 [0xC3, 0x00, 0x02])
      16 (fun t => t.pc == 0x0200) = true := by
  decide

theorem test_v47_2_jp_nz_a16 :
    answers
      { start 0x0150 [0xC2, 0x00, 0x02] with
        flags := { State.reset.flags with z := true } }
      12 (fun t => t.pc == 0x0153) = true := by
  decide

theorem test_v47_3_jp_hl :
    answers
      { start 0x0150 [0xE9] with
        regs := { State.reset.regs with h := 0x40, l := 0x00 } }
      4 (fun t => t.pc == 0x4000) = true := by
  decide

theorem test_v47_4_jr_r8 :
    answers
      (start 0x0150 [0x18, 0xFE])
      12 (fun t => t.pc == 0x0150) = true := by
  decide

theorem test_v47_5_jr_r8 :
    answers
      (start 0x0150 [0x18, 0x7F])
      12 (fun t => t.pc == 0x01D1) = true := by
  decide

theorem test_v47_6_jr_c_r8 :
    answers
      { start 0x0150 [0x38, 0x10] with
        flags := { State.reset.flags with c := false } }
      8 (fun t => t.pc == 0x0152) = true := by
  decide

theorem test_v47_7_jr_r8 :
    stopsOn
      (start 0x0000 [0x18, 0xFD])
      (.pcRange (-1)) = true := by
  decide

theorem test_v47_8_call_a16 :
    answers
      { start 0x0150 [0xCD, 0x00, 0x02] with
        sp := 0xFFFE }
      24 (fun t => t.pc == 0x0200 && t.sp == 0xFFFC && holds t 0xFFFD 0x01 && holds t 0xFFFC 0x53) = true := by
  decide

theorem test_v47_9_call_z_a16 :
    answers
      { start 0x0150 [0xCC, 0x00, 0x02] with
        flags := { State.reset.flags with z := false } }
      12 (fun t => t.pc == 0x0153 && t.sp == 0xFFFE) = true := by
  decide

theorem test_v47_10_ret :
    answers
      { withBus [(0xFFFC, 0x53), (0xFFFD, 0x01)] (start 0x0150 [0xC9]) with
        sp := 0xFFFC }
      16 (fun t => t.pc == 0x0153 && t.sp == 0xFFFE) = true := by
  decide

theorem test_v47_11_ret_nc :
    answers
      { withBus [(0xFFFC, 0x53), (0xFFFD, 0x01)] (start 0x0150 [0xD0]) with
        flags := { State.reset.flags with c := false }
        sp := 0xFFFC }
      20 (fun t => t.pc == 0x0153 && t.sp == 0xFFFE) = true := by
  decide

theorem test_v47_12_ret_nc :
    answers
      { start 0x0150 [0xD0] with
        flags := { State.reset.flags with c := true }
        sp := 0xFFFC }
      8 (fun t => t.pc == 0x0151 && t.sp == 0xFFFC) = true := by
  decide

theorem test_v47_13_reti :
    answers
      { withBus [(0xFFFC, 0x53), (0xFFFD, 0x01)] (start 0x0150 [0xD9]) with
        ime := false
        sp := 0xFFFC }
      16 (fun t => t.pc == 0x0153 && t.sp == 0xFFFE && t.ime == true) = true := by
  decide

theorem test_v47_14_rst_38h :
    answers
      { start 0x0150 [0xFF] with
        sp := 0xFFFE }
      16 (fun t => t.pc == 0x0038 && t.sp == 0xFFFC && holds t 0xFFFD 0x01 && holds t 0xFFFC 0x51) = true := by
  decide

theorem test_v47_15_rst_00h :
    answers
      { start 0x0150 [0xC7] with
        sp := 0xFFFE }
      16 (fun t => t.pc == 0x0000 && t.sp == 0xFFFC) = true := by
  decide

theorem test_v48_1_nop :
    answers
      (start 0x0150 [0x00])
      4 (fun t => t.pc == 0x0151) = true := by
  decide

theorem test_v48_2_nop_at_0xffff :
    stopsOn
      (start 0xFFFF [0x00])
      (.pcRange (0x10000)) = true := by
  decide

theorem test_v48_3_halt :
    answers
      { start 0x0150 [0x76, 0x3E, 0x42] with
        regs := { State.reset.regs with a := 0x01 }
        ime := false }
      4 (fun t => t.regs.a == 0x01 && t.pc == 0x0153 && t.halted == false) = true := by
  decide

theorem test_v48_4_halt :
    stopsOn
      { start 0x0150 [0x76, 0xD3] with
        ime := false }
      (.undefinedOpcode 0xD3 0x0151) = true := by
  decide

theorem test_v48_6_halt_v_blank_requested_by_the_host :
    answers
      { withBus [(0xFFFF, 0x01)] (start 0x0150 [0x76]) with
        ime := true
        extReq := [0x01] }
      4 (fun t => t.pc == 0x0040 && t.sp == 0xFFFC && t.ime == false && t.halted == false && holds t 0xFFFD 0x01 && holds t 0xFFFC 0x51) = true := by
  decide

theorem test_v48_7_stop :
    answers
      (start 0x0150 [0x10, 0x00])
      4 (fun t => t.pc == 0x0152 && t.unimplementedSeen) = true := by
  decide

theorem test_v48_8_di_timer_requested_by_the_host :
    answers
      { withBus [(0xFFFF, 0x04)] (start 0x0150 [0xF3]) with
        ime := true
        extReq := [0x04] }
      4 (fun t => t.pc == 0x0151 && t.ime == false && holds t 0xFF0F 0x00) = true := by
  decide

theorem test_v48_9_ei_timer_requested_by_the_host :
    answers
      { withBus [(0xFFFF, 0x04)] (start 0x0150 [0xFB]) with
        ime := false
        extReq := [0x04] }
      4 (fun t => t.pc == 0x0050 && t.sp == 0xFFFC && t.ime == false) = true := by
  decide

theorem test_v60_1_nop_v_blank_and_timer_requested_together :
    answers
      { withBus [(0xFFFF, 0x05)] (start 0x0150 [0x00]) with
        ime := true
        extReq := [0x05] }
      4 (fun t => t.pc == 0x0040 && t.sp == 0xFFFC && t.ime == false && holds t 0xFF0F 0x00 && holds t 0xFFFC 0x51) = true := by
  decide

theorem test_v60_2_nop_v_blank_requested_but_not_enabled :
    answers
      { withBus [(0xFFFF, 0x04)] (start 0x0150 [0x00]) with
        ime := true
        extReq := [0x01] }
      4 (fun t => t.pc == 0x0151 && t.ime == true && holds t 0xFF0F 0x00) = true := by
  decide

theorem test_v60_4_nop_all_five_requested_ime_0 :
    answers
      { withBus [(0xFFFF, 0x1F)] (start 0x0150 [0x00]) with
        ime := false
        extReq := [0x1F] }
      4 (fun t => t.pc == 0x0151 && t.ime == false && holds t 0xFF0F 0x00) = true := by
  decide

theorem test_v60_5_nop_button_requested_sp_0x0001 :
    stopsOn
      { withBus [(0xFFFF, 0x10)] (start 0x0150 [0x00]) with
        ime := true
        extReq := [0x10]
        sp := 0x0001 }
      (.spRange (-1)) = true := by
  decide

/-! ## One-step checks of the vectors' instruction rows that take more than one step -/

theorem test_dma_copies_0x8C_bytes :
    answers { withBus [(0xC000, 0x11), (0xC08B, 0x8B), (0xC08C, 0x8C)] (start 0x0150 [0xE0, 0x46]) with
        regs := { State.reset.regs with a := 0xC0 } }
      12 (fun t => holds t 0xFE00 0x11 && holds t 0xFE8B 0x8B && holds t 0xFE8C 0x00 && holds t 0xFF46 0xC0) = true := by
  decide +kernel

theorem test_daa_after_add :
    answers { start 0x0150 [0x27] with
        regs := { State.reset.regs with a := 0x9A }
        flags := Flags.ofByte 0x00 }
      4 (fun t => t.regs.a == 0x00 && t.flags.toByte == 0x90) = true := by
  decide

theorem test_daa_after_subtract :
    answers { start 0x0150 [0x27] with
        regs := { State.reset.regs with a := 0x2D }
        flags := Flags.ofByte 0x60 }
      4 (fun t => t.regs.a == 0x27 && t.flags.toByte == 0x40) = true := by
  decide

theorem test_halted_step_costs_4 :
    answers { State.reset with halted := true, ime := true } 4 (fun t => t.pc == 0x0100 && t.halted) = true := by
  decide

theorem test_rom_bounds_on_switched_bank :
    stopsOn { start 0x0150 [0xFA, 0x00, 0x40] with bank := { State.reset.bank with romBank := 2 } }
      (.romBounds 0x4000 0x8000) = true := by
  decide

/-- The steps of 60_exceptions.md R1343's example: `cum` = 76 enters pixel transfer, 456 starts line 1 in OAM search. -/
theorem test_ppu_phases :
    (ppuStep 72 State.reset).busRead 0xFF41 = 0x02 ∧ (ppuStep 76 State.reset).busRead 0xFF41 = 0x03 ∧
      (ppuStep 456 State.reset).busRead 0xFF41 = 0x02 ∧ (ppuStep 456 State.reset).busRead 0xFF44 = 0x01 := by
  decide

/-- R1342's example: with LYC = 144 the step to `cum` = 65664 raises bits 1 and 0. -/
theorem test_ppu_vblank_and_lyc :
    (ppuStep 65664
        { withBus [(0xFF44, 0x8F), (0xFF45, 0x90)] State.reset with
          ppu := { State.reset.ppu with line := 143 } }).busRead 0xFF0F = 0x03 := by
  decide

theorem test_reset_storages_wf :
    Memory.wf Config.busUnlisted 0x10000 State.reset.bus = true ∧
      Memory.wf Config.ramUnlisted State.reset.cart.ramSize State.reset.bank.ram = true ∧
      Memory.wf Config.romUnlisted State.reset.cart.romLen State.reset.cart.rom = true := by
  decide

theorem test_write_of_the_unlisted_value_removes_the_entry :
    (State.busPoke 0xC000 0x00 (State.busPoke 0xC000 0x12 State.reset)).bus = [] ∧
      (State.busPoke 0xFF41 0x02 (State.busPoke 0xFF41 0x80 State.reset)).bus = [] := by
  decide

/-! ## Witnesses: for each statement with hypotheses, a state and operands that meet them, clause by clause, at the end of a range -/

/-- A running machine with PC, SP and HL as given, and a byte 0x80 at 0xC000. -/
def spot (pc sp hl : Word) : State :=
  { withBus [(0xC000, 0x80)] State.reset with
    pc := pc, sp := sp, regs := { State.reset.regs with h := hiByte hl, l := loByte hl } }

/-- The same with ROM bank 2 selected, which the 32 KiB image of `State.reset` does not have. -/
def spotBank2 (pc sp hl : Word) : State :=
  { spot pc sp hl with bank := { State.reset.bank with romBank := 2 } }

/-- The fault of a CPU read of 0x4000 in ROM bank 2. -/
def bank2Fault : FaultRecord := .romBounds 0x4000 0x8000

theorem test_witness_DecodeOfEncode :
    Instr.wellFormed (.addAD8 0xFF) = true ∧ Instr.wellFormed (.jpA16 0xFFFF) = true ∧ Instr.wellFormed .stop = true := by
  decide

theorem test_witness_EncodeOfDecode :
    decode [0x41, 0x10] = .ok (.ldBC, [0x10]) ∧ Instr.ldBC ≠ .stop ∧ decode [0x10, 0xFF] = .ok (.stop, []) := by
  decide

theorem test_witness_InstructionLengths :
    encode (.jpA16 0x0000) = 0xC3 :: [0x00, 0x00] ∧ encode (.jpA16 0xFFFF) = 0xC3 :: [0xFF, 0xFF] ∧
      encode .rlcB = 0xCB :: [0x00] ∧ encode .nop = 0x00 :: [] ∧ opCell 0x00 = .entry ⟨1, 4, none, .none .nop⟩ :=
  ⟨rfl, rfl, rfl, rfl, rfl⟩

theorem test_witness_UndefinedBytesFault :
    (0xFD : Byte) ∈ [0xD3, 0xDB, 0xDD, 0xE3, 0xE4, 0xEB, 0xEC, 0xED, 0xF4, 0xFC, (0xFD : Byte)] ∧
      (start 0x0150 [0xFD]).fault = none ∧ (start 0x0150 [0xFD]).halted = false ∧
      (start 0x0150 [0xFD]).memRead (start 0x0150 [0xFD]).pc = .ok 0xFD ∧ Instr.wellFormed .undefFD = false := by
  decide

theorem test_witness_StepRunsDecodedInstruction :
    decode [0xC3, 0x50, 0x01] = .ok (.jpA16 0x0150, []) ∧ Instr.wellFormed (.jpA16 0x0150) = true ∧
      (start 0xFFFC [0xC3, 0x50, 0x01]).fetches 0xFFFC [0xC3, 0x50, 0x01] ∧
      (start 0xFFFC [0xC3, 0x50, 0x01]).pc.toNat + 3 ≤ 0xFFFF ∧
      opcodeOf [0xC3, 0x50, 0x01] ∉ (start 0xFFFC [0xC3, 0x50, 0x01]).cart.unhandled :=
  ⟨by decide, by decide, ⟨by decide, by decide, by decide, trivial⟩, by decide, by decide⟩

theorem test_witness_StepRunsDecodedInstruction_stop :
    (start 0xFFFD [0x10]).memRead (start 0xFFFD [0x10]).pc = .ok 0x10 ∧ (start 0xFFFD [0x10]).pc.toNat + 2 ≤ 0xFFFF ∧
      (start 0xFFFD [0x10]).fault = none ∧ (start 0xFFFD [0x10]).halted = false := by
  decide

/-- `start` with ROM bank 2 selected, so that a read of 0x4000 is past the image. -/
def startBank2 (pc : Nat) (code : List Byte) : State :=
  { start pc code with bank := { State.reset.bank with romBank := 2 } }

theorem test_witness_StepRunsDecodedInstruction_opcode :
    (startBank2 0x4000 []).fault = none ∧ (startBank2 0x4000 []).halted = false ∧
      (startBank2 0x4000 []).memRead (startBank2 0x4000 []).pc = .error bank2Fault := by
  decide

theorem test_witness_StepRunsDecodedInstruction_prefix :
    (start 0xFFFF [0xCB]).memRead (start 0xFFFF [0xCB]).pc = .ok 0xCB ∧ (start 0xFFFF [0xCB]).pc = 0xFFFF ∧
      (start 0xFFFF [0xCB]).fault = none ∧ (start 0xFFFF [0xCB]).halted = false ∧
      (startBank2 0x3FFF [0xCB]).memRead (startBank2 0x3FFF [0xCB]).pc = .ok 0xCB ∧
      (startBank2 0x3FFF [0xCB]).pc ≠ 0xFFFF ∧
      (startBank2 0x3FFF [0xCB]).memRead ((startBank2 0x3FFF [0xCB]).pc + 1) = .error bank2Fault ∧
      (startBank2 0x3FFF [0xCB]).fault = none ∧ (startBank2 0x3FFF [0xCB]).halted = false := by
  decide

theorem test_witness_StepRunsDecodedInstruction_advance :
    Instr.wellFormed (.jpA16 0x0000) = true ∧ (start 0xFFFD [0xC3]).fetches 0xFFFD (opcodeBytes (.jpA16 0x0000)) ∧
      (start 0xFFFD [0xC3]).pc.toNat + (opcodeBytes (.jpA16 0x0000)).length ≤ 0x10000 ∧
      (0xFFFF : Int) < (start 0xFFFD [0xC3]).pc.toNat + (encode (.jpA16 0x0000)).length ∧
      Instr.wellFormed .rlcB = true ∧ (start 0xFFFE [0xCB, 0x00]).fetches 0xFFFE (opcodeBytes .rlcB) ∧
      (start 0xFFFE [0xCB, 0x00]).pc.toNat + (opcodeBytes .rlcB).length ≤ 0x10000 ∧
      (0xFFFF : Int) < (start 0xFFFE [0xCB, 0x00]).pc.toNat + (encode .rlcB).length :=
  ⟨by decide, ⟨by decide, trivial⟩, by decide, by decide, by decide, ⟨by decide, by decide, trivial⟩, by decide, by decide⟩

theorem test_witness_StepRunsDecodedInstruction_operand :
    (startBank2 0x3FFF [0xC3]).fetches 0x3FFF (opcodeBytes (.jpA16 0x0050)) ∧
      (startBank2 0x3FFF [0xC3]).pc.toNat + (encode (.jpA16 0x0050)).length ≤ 0xFFFF ∧
      opcodeOf (encode (.jpA16 0x0050)) ∉ (startBank2 0x3FFF [0xC3]).cart.unhandled ∧ Instr.jpA16 0x0050 ≠ .stop ∧
      (opcodeBytes (.jpA16 0x0050)).length = 1 ∧ (encode (.jpA16 0x0050)).length = 3 ∧
      (startBank2 0x3FFF [0xC3]).memRead ((startBank2 0x3FFF [0xC3]).pc + 1) = .error bank2Fault ∧
      (startBank2 0x3FFE [0xC3, 0x50]).fetches 0x3FFE (opcodeBytes (.jpA16 0x0050)) ∧
      (startBank2 0x3FFE [0xC3, 0x50]).memRead ((startBank2 0x3FFE [0xC3, 0x50]).pc + 1) = .ok 0x50 ∧
      (startBank2 0x3FFE [0xC3, 0x50]).memRead ((startBank2 0x3FFE [0xC3, 0x50]).pc + 2) = .error bank2Fault ∧
      (startBank2 0x3FFE [0xC3, 0x50]).fault = none ∧ (startBank2 0x3FFE [0xC3, 0x50]).halted = false :=
  ⟨⟨by decide, trivial⟩, by decide, by decide, by decide, by decide, by decide, by decide, ⟨by decide, trivial⟩, by decide,
    by decide, by decide, by decide⟩

/-- R403 and R405: the faults of fetching, at the last address that can be read. -/
theorem test_fetch_prefix_at_end : stopsOn (start 0xFFFF [0xCB]) (.pcRange 0x10000) = true := by decide

theorem test_fetch_operand_unreadable :
    stopsOn (startBank2 0x3FFE [0xC3, 0x50]) (.romBounds 0x4000 0x8000) = true := by decide

theorem test_witness_HaltedAndFaultedSteps :
    ({ State.reset with halted := true } : State).fault = none ∧ ({ State.reset with halted := true } : State).halted = true ∧
      ({ State.reset with fault := some (.pcRange 0x10000) } : State).fault = some (.pcRange 0x10000) := by
  decide

/-- A machine whose handler set lacks NOP and RLC B. -/
def unhandledStart (code : List Byte) : State :=
  { start 0xFFFD code with cart := { (start 0xFFFD code).cart with unhandled := [0x0000, 0xCB00] } }

theorem test_witness_UnimplementedPath :
    (unhandledStart [0x00]).fault = none ∧ (unhandledStart [0x00]).halted = false ∧ Instr.wellFormed .nop = true ∧
      Instr.nop ≠ .halt ∧ (unhandledStart [0x00]).fetches 0xFFFD (opcodeBytes .nop) ∧
      (encode .nop).head? ≠ some 0xCB ∧ opCell ((encode .nop).headD 0) = .entry ⟨1, 4, none, .none .nop⟩ ∧
      opcodeOf (encode .nop) ∈ (unhandledStart [0x00]).cart.unhandled ∧ (unhandledStart [0x00]).pc.toNat + 1 ≤ 0xFFFF :=
  ⟨by decide, by decide, by decide, by decide, ⟨by decide, trivial⟩, by decide, rfl, by decide, by decide⟩

theorem test_witness_UnimplementedPath_cb :
    (unhandledStart [0xCB, 0x00]).fetches 0xFFFD (opcodeBytes .rlcB) ∧ (encode .rlcB).head? = some 0xCB ∧
      cbEntry ((encode .rlcB).getD 1 0) = ⟨2, 8, none, .none .rlcB⟩ ∧
      opcodeOf (encode .rlcB) ∈ (unhandledStart [0xCB, 0x00]).cart.unhandled ∧
      (unhandledStart [0xCB, 0x00]).pc.toNat + 2 ≤ 0xFFFF :=
  ⟨⟨by decide, by decide, trivial⟩, by decide, rfl, by decide, by decide⟩

/-- A machine at a HALT whose handler set lists HALT's opcode as taken out. -/
def haltUnhandled : State :=
  { start 0xFFFE [0x76] with ime := true, cart := { (start 0xFFFE [0x76]).cart with unhandled := [0x0076] } }

theorem test_witness_UnimplementedPath_halt :
    haltUnhandled.fault = none ∧ haltUnhandled.halted = false ∧ haltUnhandled.memRead haltUnhandled.pc = .ok 0x76 ∧
      opcodeOf (encode .halt) ∈ haltUnhandled.cart.unhandled := by
  decide

/-- R1202 corner case 4: HALT halts, listed or not. -/
theorem test_halt_never_unimplemented :
    answers haltUnhandled 4 (fun t => t.halted && !t.unimplementedSeen && t.pc == 0xFFFF) = true := by decide

theorem test_witness_RegisterLoads :
    formOf .ldBC = .ldRegReg .b .c ∧ (spot 0xFFFE 0 0).pc.toNat + 1 ≤ 0xFFFF ∧
      formOf (.ldLD8 0xFF) = .ldRegImm .l 0xFF ∧ (spot 0xFFFD 0 0).pc.toNat + 2 ≤ 0xFFFF ∧
      formOf .ldLMemHL = .ldRegMem .l ∧ (spot 0xFFFE 0 0xC000).memRead (spot 0xFFFE 0 0xC000).regs.hl = .ok 0x80 := by
  decide

theorem test_witness_StoresAtHL :
    formOf .ldMemHLH = .ldMemReg .h ∧ (spot 0xFFFE 0 0xC000).pc.toNat + 1 ≤ 0xFFFF ∧
      formOf (.ldMemHLD8 0xFF) = .ldMemImm 0xFF ∧ (spot 0xFFFD 0 0xC000).pc.toNat + 2 ≤ 0xFFFF := by
  decide

theorem test_witness_LoadAFromMemory :
    formOf .ldAMemBC = .ldAFrom .bc ∧ formOf .ldAMemDE = .ldAFrom .de ∧
      formOf (.ldAMemA16 0xFFFF) = .ldAFrom (.abs 0xFFFF) ∧ formOf .ldAMemC = .ldAFrom .highC ∧
      formOf (.ldhAMemA8 0xFF) = .ldAFrom (.high 0xFF) ∧ (spot 0xFFFC 0 0).pc.toNat + Ea.length (.abs 0xFFFF) ≤ 0xFFFF ∧
      (0xFF00 : Word) + (0xFF : Byte).setWidth 16 = 0xFFFF ∧ (spot 0xFFFC 0 0).memRead 0xFFFF = .ok 0x00 := by
  decide

theorem test_witness_LoadAFromMemory_fault :
    formOf (.ldAMemA16 0x4000) = .ldAFrom (.abs 0x4000) ∧ (spotBank2 0xFFFC 0 0).memRead 0x4000 = .error bank2Fault := by
  decide

theorem test_witness_StoreAToMemory :
    formOf .ldMemBCA = .ldATo .bc ∧ formOf .ldMemDEA = .ldATo .de ∧ formOf (.ldMemA16A 0xFFFF) = .ldATo (.abs 0xFFFF) ∧
      formOf .ldMemCA = .ldATo .highC ∧ formOf (.ldhMemA8A 0xFF) = .ldATo (.high 0xFF) ∧
      (spot 0xFFFC 0 0).pc.toNat + Ea.length (.abs 0xFFFF) ≤ 0xFFFF := by
  decide

theorem test_witness_LoadStoreStepsHL :
    formOf .ldAMemHLInc = .ldAFromHL .inc ∧ formOf .ldAMemHLDec = .ldAFromHL .dec ∧
      (spot 0xFFFE 0 0xFFFF).memRead (spot 0xFFFE 0 0xFFFF).regs.hl = .ok 0x00 ∧ formOf .ldMemHLIncA = .ldAToHL .inc ∧
      formOf .ldMemHLDecA = .ldAToHL .dec ∧ (spot 0xFFFE 0 0xFFFF).pc.toNat + 1 ≤ 0xFFFF := by
  decide

theorem test_witness_HLReadFaults :
    [Instr.ldBMemHL, .ldAMemHLInc, .addAMemHL, .incMemHL, .decMemHL, .rlcMemHL, .bit7MemHL, .res7MemHL, .set7MemHL].all
        (fun i => (formOf i).readsHL) = true ∧
      (spotBank2 0xFFFD 0 0x4000).pc.toNat + (encode .rlcMemHL).length ≤ 0xFFFF ∧
      (spotBank2 0xFFFD 0 0x4000).memRead (spotBank2 0xFFFD 0 0x4000).regs.hl = .error bank2Fault := by
  decide

theorem test_witness_PairAndSPLoads :
    formOf (.ldSPD16 0xFFFF) = .ldPairImm .sp 0xFFFF ∧ formOf (.ldMemA16SP 0xFFFF) = .ldMemSP 0xFFFF ∧
      (spot 0xFFFC 0 0).pc.toNat + 3 ≤ 0xFFFF ∧ formOf .ldSPHL = .ldSPHL ∧ (spot 0xFFFE 0 0).pc.toNat + 1 ≤ 0xFFFF := by
  decide

theorem test_witness_PushStoresPair :
    formOf .pushAF = .push .af ∧ (spot 0xFFFE 2 0).pc.toNat + 1 ≤ 0xFFFF ∧ 2 ≤ (spot 0xFFFE 2 0).sp.toNat ∧
      (spot 0xFFFE 1 0).sp.toNat < 2 := by
  decide

theorem test_witness_PopLoadsPair :
    formOf .popAF = .pop .af ∧ formOf .popHL = .pop .hl ∧ StackPair.hl ≠ .af ∧
      (spot 0xFFFE 0xFFFD 0).pc.toNat + 1 ≤ 0xFFFF ∧ (spot 0xFFFE 0xFFFD 0).sp.toNat + 2 ≤ 0xFFFF ∧
      (spot 0xFFFE 0xFFFD 0).memRead 0xFFFD = .ok 0x00 ∧ (spot 0xFFFE 0xFFFD 0).memRead 0xFFFE = .ok 0x00 ∧
      0xFFFF < (spot 0xFFFE 0xFFFE 0).sp.toNat + 2 := by
  decide

theorem test_witness_PopLoadsPair_faults :
    (spotBank2 0xFFFE 0x4000 0).memRead (spotBank2 0xFFFE 0x4000 0).sp = .error bank2Fault ∧
      (spotBank2 0xFFFE 0x3FFF 0).memRead (spotBank2 0xFFFE 0x3FFF 0).sp = .ok 0x00 ∧
      (spotBank2 0xFFFE 0x3FFF 0).memRead ((spotBank2 0xFFFE 0x3FFF 0).sp + 1) = .error bank2Fault ∧
      (spotBank2 0xFFFE 0x4000 0).sp.toNat + 2 ≤ 0xFFFF := by
  decide

theorem test_witness_StackRoundTrip :
    2 ≤ (spot 0 0x8002 0).sp.toNat ∧ isPlain ((spot 0 0x8002 0).sp - 1) ∧ isPlain ((spot 0 0x8002 0).sp - 2) := by
  unfold isPlain
  decide

theorem test_witness_AddAndAdc :
    (spot 0xFFFE 0 0xC000).reads (.reg .d) 0x00 ∧ (spot 0xFFFE 0 0xC000).reads .memHL 0x80 ∧
      (spot 0xFFFD 0 0xC000).reads (.imm 0xFF) 0xFF ∧ formOf .addAD = .alu .add (.reg .d) ∧
      formOf .adcAMemHL = .alu .adc .memHL ∧ formOf (.addAD8 0xFF) = .alu .add (.imm 0xFF) ∧
      (spot 0xFFFE 0 0xC000).pc.toNat + Source.length .memHL ≤ 0xFFFF ∧
      (spot 0xFFFD 0 0xC000).pc.toNat + Source.length (.imm 0xFF) ≤ 0xFFFF := by
  simp only [State.reads]
  decide

theorem test_witness_SubSbcCp :
    (spot 0xFFFE 0 0xC000).reads .memHL 0x80 ∧ formOf .subMemHL = .alu .sub .memHL ∧
      formOf .sbcAMemHL = .alu .sbc .memHL ∧ formOf .cpMemHL = .alu .cp .memHL ∧
      (spot 0xFFFE 0 0xC000).pc.toNat + Source.length .memHL ≤ 0xFFFF := by
  simp only [State.reads]
  decide

theorem test_witness_AndXorOr :
    (spot 0xFFFE 0 0xC000).reads .memHL 0x80 ∧ formOf .andMemHL = .alu .and .memHL ∧
      formOf .xorMemHL = .alu .xor .memHL ∧ formOf .orMemHL = .alu .or .memHL ∧
      (spot 0xFFFE 0 0xC000).pc.toNat + Source.length .memHL ≤ 0xFFFF := by
  simp only [State.reads]
  decide

theorem test_witness_IncDecByte :
    (spot 0xFFFE 0 0xC000).targetReads .memHL 0x80 ∧ (spot 0xFFFE 0 0xC000).targetReads (.reg .h) 0xC0 ∧
      formOf .incMemHL = .inc8 .memHL ∧ formOf .decH = .dec8 (.reg .h) ∧
      (spot 0xFFFE 0 0xC000).pc.toNat + 1 ≤ 0xFFFF := by
  simp only [State.targetReads]
  decide

theorem test_witness_DecimalAdjust : formOf .daa = .daa ∧ (spot 0xFFFE 0 0).pc.toNat + 1 ≤ 0xFFFF := by decide

theorem test_witness_ComplementAndCarryFlags :
    formOf .cpl = .cpl ∧ formOf .scf = .scf ∧ formOf .ccf = .ccf ∧ (spot 0xFFFE 0 0).pc.toNat + 1 ≤ 0xFFFF := by
  decide

theorem test_witness_AddToHL : formOf .addHLSP = .addHL .sp ∧ (spot 0xFFFE 0 0).pc.toNat + 1 ≤ 0xFFFF := by decide

theorem test_witness_IncDecPair :
    formOf .incSP = .incPair .sp ∧ (spot 0xFFFE 0xFFFE 0).sp ≠ 0xFFFF ∧ (spot 0xFFFE 0xFFFF 0).sp = 0xFFFF ∧
      formOf .decSP = .decPair .sp ∧ (spot 0xFFFE 1 0).sp ≠ 0 ∧ (spot 0xFFFE 0 0).sp = 0 ∧ formOf .incBC = .incPair .bc ∧
      (spot 0xFFFE 0 0).pc.toNat + 1 ≤ 0xFFFF := by
  decide

theorem test_witness_SPRelativeAdds :
    formOf (.addSPR8 0x80) = .addSP 0x80 ∧ formOf (.ldHLSPR8 0x7F) = .ldHLSP 0x7F ∧
      (spot 0xFFFD 0 0).pc.toNat + 2 ≤ 0xFFFF ∧ (0 : Int) ≤ ((spot 0 0x0080 0).sp.toNat : Int) + (0x80 : Byte).toInt ∧
      ((spot 0 0x0080 0).sp.toNat : Int) + (0x80 : Byte).toInt ≤ 0xFFFF ∧
      ((spot 0 0x007F 0).sp.toNat : Int) + (0x80 : Byte).toInt < 0 ∧
      0xFFFF < ((spot 0 0xFFFF 0).sp.toNat : Int) + (0x01 : Byte).toInt := by
  decide

theorem test_witness_AccumulatorRotates :
    formOf .rlca = .rotA .rlc ∧ formOf .rrca = .rotA .rrc ∧ formOf .rla = .rotA .rl ∧ formOf .rra = .rotA .rr ∧
      (spot 0xFFFE 0 0).pc.toNat + 1 ≤ 0xFFFF := by
  decide

theorem test_witness_PrefixRotatesAndShifts :
    formOf .swapMemHL = .rot .swap .memHL ∧ formOf .rlcA = .rot .rlc (.reg .a) ∧
      (spot 0xFFFD 0 0xC000).targetReads .memHL 0x80 ∧ (spot 0xFFFD 0 0xC000).targetReads (.reg .a) 0x01 ∧
      (spot 0xFFFD 0 0xC000).pc.toNat + 2 ≤ 0xFFFF := by
  simp only [State.targetReads]
  decide

theorem test_witness_BitResSet :
    formOf .bit7MemHL = .bit 7 .memHL ∧ formOf .res0A = .res 0 (.reg .a) ∧ formOf .set7MemHL = .set 7 .memHL ∧
      (spot 0xFFFD 0 0xC000).targetReads .memHL 0x80 ∧ (spot 0xFFFD 0 0xC000).targetReads (.reg .a) 0x01 ∧
      (spot 0xFFFD 0 0xC000).pc.toNat + 2 ≤ 0xFFFF := by
  simp only [State.targetReads]
  decide

theorem test_witness_AbsoluteJumps :
    formOf (.jpA16 0xFFFF) = .jp 0xFFFF ∧ formOf (.jpNzA16 0xFFFF) = .jpCond .nz 0xFFFF ∧ formOf .jpHL = .jpHL ∧
      (spot 0xFFFC 0 0).pc.toNat + 3 ≤ 0xFFFF ∧ (spot 0xFFFE 0 0).pc.toNat + 1 ≤ 0xFFFF := by
  decide

theorem test_witness_RelativeJumps :
    formOf (.jrR8 0x80) = .jr 0x80 ∧ formOf (.jrCR8 0x7F) = .jrCond .c 0x7F ∧ State.reset.flags.holds .c = true ∧
      formOf (.jrNcR8 0x7F) = .jrCond .nc 0x7F ∧ State.reset.flags.holds .nc = false ∧
      (spot 0x007E 0 0).pc.toNat + 2 ≤ 0xFFFF ∧ (0 : Int) ≤ ((spot 0x007E 0 0).pc.toNat : Int) + 2 + (0x80 : Byte).toInt ∧
      ((spot 0x007D 0 0).pc.toNat : Int) + 2 + (0x80 : Byte).toInt < 0 ∧ (spot 0xFFFD 0 0).pc.toNat + 2 ≤ 0xFFFF ∧
      0xFFFF < ((spot 0xFFFD 0 0).pc.toNat : Int) + 2 + (0x01 : Byte).toInt := by
  decide

theorem test_witness_CallsAndRestarts :
    formOf (.callA16 0xFFFF) = .call 0xFFFF ∧ formOf (.callCA16 0) = .callCond .c 0 ∧ State.reset.flags.holds .c = true ∧
      formOf (.callNcA16 0) = .callCond .nc 0 ∧ State.reset.flags.holds .nc = false ∧
      (spot 0xFFFC 2 0).pc.toNat + 3 ≤ 0xFFFF ∧ 2 ≤ (spot 0xFFFC 2 0).sp.toNat ∧ (spot 0xFFFC 1 0).sp.toNat < 2 ∧
      formOf .rst38H = .rst 7 ∧ (spot 0xFFFE 2 0).pc.toNat + 1 ≤ 0xFFFF := by
  decide

theorem test_witness_Returns :
    formOf .ret = .ret ∧ formOf .reti = .reti ∧ formOf .retC = .retCond .c ∧ State.reset.flags.holds .c = true ∧
      formOf .retNc = .retCond .nc ∧ State.reset.flags.holds .nc = false ∧
      (spot 0xFFFE 0xFFFD 0).pc.toNat + 1 ≤ 0xFFFF ∧ (spot 0xFFFE 0xFFFD 0).sp.toNat + 2 ≤ 0xFFFF ∧
      (spot 0xFFFE 0xFFFD 0).memRead 0xFFFD = .ok 0x00 ∧ (spot 0xFFFE 0xFFFD 0).memRead 0xFFFE = .ok 0x00 ∧
      0xFFFF < (spot 0xFFFE 0xFFFE 0).sp.toNat + 2 ∧
      (spotBank2 0xFFFE 0x4000 0).memRead (spotBank2 0xFFFE 0x4000 0).sp = .error bank2Fault := by
  decide

theorem test_witness_CallThenReturn :
    formOf (.callA16 0xFFFE) = .call 0xFFFE ∧ formOf .ret = .ret ∧ (spot 0xFFFC 0x8002 0).pc.toNat + 3 ≤ 0xFFFF ∧
      (0xFFFE : Word) ≠ 0xFFFF ∧ 2 ≤ (spot 0xFFFC 0x8002 0).sp.toNat ∧ isPlain ((spot 0xFFFC 0x8002 0).sp - 1) ∧
      isPlain ((spot 0xFFFC 0x8002 0).sp - 2) := by
  unfold isPlain
  decide

theorem test_witness_NopStopDiEi :
    formOf .nop = .nop ∧ formOf .stop = .stop ∧ formOf .di = .di ∧ formOf .ei = .ei ∧
      (spot 0xFFFE 0 0).pc.toNat + 1 ≤ 0xFFFF ∧ (spot 0xFFFD 0 0).pc.toNat + 2 ≤ 0xFFFF := by
  decide

theorem test_witness_HaltWaitsOrSkips :
    formOf .halt = .halt ∧ ({ spot 0xFFFE 0 0 with ime := true } : State).ime = true ∧
      (spot 0xFFFE 0 0).pc.toNat + 1 ≤ 0xFFFF ∧ (start 0xFFFC [0x76, 0x3E]).ime = false ∧
      (start 0xFFFC [0x76, 0x3E]).fetches ((start 0xFFFC [0x76, 0x3E]).pc + 1) (opcodeBytes (.ldAD8 0x42)) ∧
      Instr.wellFormed (.ldAD8 0x42) = true ∧
      (start 0xFFFC [0x76, 0x3E]).pc.toNat + 1 + (encode (.ldAD8 0x42)).length ≤ 0xFFFF :=
  ⟨rfl, rfl, by decide, by decide, ⟨by decide, trivial⟩, by decide, by decide⟩

theorem test_witness_HaltWaitsOrSkips_faults :
    (start 0xFFFD [0x76, 0x3E]).fetches ((start 0xFFFD [0x76, 0x3E]).pc + 1) (opcodeBytes (.ldAD8 0x42)) ∧
      0xFFFF < (start 0xFFFD [0x76, 0x3E]).pc.toNat + 1 + (encode (.ldAD8 0x42)).length ∧
      (start 0xFFFD [0x76, 0x3E]).pc.toNat + (opcodeBytes (.ldAD8 0x42)).length ≤ 0xFFFF ∧
      (start 0xFFFE [0x76, 0xCB]).pc.toNat + 1 = 0xFFFF ∧
      (start 0xFFFE [0x76, 0xCB]).memRead ((start 0xFFFE [0x76, 0xCB]).pc + 1) = .ok 0xCB ∧
      Instr.wellFormed .undefD3 = false ∧ encode .undefD3 = [0xD3] ∧
      (start 0xFFFE [0x76, 0xD3]).memRead ((start 0xFFFE [0x76, 0xD3]).pc + 1) = .ok 0xD3 ∧
      (spotBank2 0x3FFF 0 0).memRead ((spotBank2 0x3FFF 0 0).pc + 1) = .error bank2Fault ∧
      ({ start 0x3FFE [0x76, 0xCB] with bank := { State.reset.bank with romBank := 2 } } : State).memRead 0x3FFF = .ok 0xCB ∧
      ({ start 0x3FFE [0x76, 0xCB] with bank := { State.reset.bank with romBank := 2 } } : State).memRead 0x4000 =
        .error bank2Fault :=
  ⟨⟨by decide, trivial⟩, by decide, by decide, by decide, by decide, by decide, by decide, by decide, by decide, by decide,
    by decide⟩

theorem test_witness_SequentialAdvanceFaults :
    Instr.wellFormed .nop = true ∧ 0xFFFF < (spot 0xFFFF 0 0).pc.toNat + (encode .nop).length ∧
      Instr.wellFormed (.jpA16 0) = true ∧ 0xFFFF < (spot 0xFFFD 0 0).pc.toNat + (encode (.jpA16 0)).length := by
  decide

/-- The state that a next-state outcome holds. -/
def nextOf (r : Result) : Option State :=
  match r with
  | .next t => some t
  | .fault _ => none
  | .refused _ => none

theorem test_witness_CyclesFromTable :
    nextOf (exec .nop (spot 0xFFFE 0 0)) = some { spot 0xFFFF 0 0 with stepCycles := 4 } ∧ encode .nop = 0x00 :: [] ∧
      opCell 0x00 = .entry ⟨1, 4, none, .none .nop⟩ ∧
      nextOf (exec .rlcB (spot 0 0 0)) =
        some { spot 2 0 0 with flags := ⟨true, false, false, false⟩, stepCycles := 8 } ∧
      encode .rlcB = [0xCB, 0x00] :=
  ⟨by decide, rfl, rfl, by decide, rfl⟩

theorem test_witness_ControlAndDeviceFrame :
    nextOf (exec .ei (spot 0 0 0)) = some { spot 1 0 0 with ime := true, stepCycles := 4 } ∧
      nextOf (exec .halt { spot 0 0 0 with ime := true }) =
        some { spot 1 0 0 with ime := true, halted := true, stepCycles := 4 } ∧
      nextOf (exec .stop (spot 0 0 0)) = some { spot 2 0 0 with unimplementedSeen := true, stepCycles := 4 } := by
  decide

theorem test_witness_FlagFrame :
    nextOf (exec .scf (spot 0 0 0)) =
        some { spot 1 0 0 with flags := ⟨true, false, false, true⟩, stepCycles := 4 } ∧
      (formOf .scf).writesFlag.z = false ∧ (formOf .daa).writesFlag.n = false ∧ (formOf .nop).writesFlag.h = false ∧
      (formOf .incB).writesFlag.c = false ∧ (nextOf (exec .daa (spot 0 0 0))).isSome = true ∧
      (nextOf (exec .nop (spot 0 0 0))).isSome = true ∧ (nextOf (exec .incB (spot 0 0 0))).isSome = true := by
  decide

theorem test_witness_RegisterFrame :
    (nextOf (exec .ldBC (spot 0 0 0))).isSome = true ∧ (formOf .ldBC).writesReg .c = false ∧
      (formOf .ldBC).writesSP = false := by
  decide

theorem test_witness_MemoryFrame :
    (nextOf (exec .nop (spot 0 0 0))).isSome = true ∧ (formOf .nop).storedAt (spot 0 0 0) = [] ∧
      (nextOf (exec .pushBC (spot 0 0x8002 0))).isSome = true ∧
      (formOf .pushBC).storedAt (spot 0 0x8002 0) = [0x8001, 0x8000] ∧
      (nextOf (exec .ldMemHLB (spot 0 0 0x7FFF))).isSome = true ∧
      (formOf .ldMemHLB).storedAt (spot 0 0 0x7FFF) = [0x7FFF] ∧
      (nextOf (exec .ldMemHLB (spot 0 0 0xFF46))).isSome = true ∧
      (formOf .ldMemHLB).storedAt (spot 0 0 0xFF46) = [0xFF46] ∧
      (nextOf (exec .ldMemHLB (spot 0 0 0xBFFF))).isSome = true ∧
      (spot 0 0 0xBFFF).extRamIndex 0xBFFF = 0x1FFF := by
  decide

theorem test_witness_MemReadWindows :
    (0x3FFF : Word).toNat < 0x4000 ∧ 0x4000 ≤ (0x4000 : Word).toNat ∧ (0x7FFF : Word).toNat < 0x8000 ∧
      0x7FFF = (1 : BitVec 7).toNat * 0x4000 + ((0x7FFF : Word).toNat - 0x4000) ∧ 0xA000 ≤ (0xA000 : Word).toNat ∧
      (0xBFFF : Word).toNat < 0xC000 ∧ 0x1FFF = (0 : BitVec 2).toNat * 0x2000 + ((0xBFFF : Word).toNat - 0xA000) ∧
      0x8000 ≤ (0x8000 : Word).toNat ∧ (0x9FFF : Word).toNat < 0xA000 ∧ 0xC000 ≤ (0xFFFF : Word).toNat := by
  decide

theorem test_witness_BankRegisterWrites :
    (0x1FFF : Word).toNat < 0x2000 ∧ 0x2000 ≤ (0x2000 : Word).toNat ∧ (0x3FFF : Word).toNat < 0x4000 ∧
      0x4000 ≤ (0x4000 : Word).toNat ∧ (0x5FFF : Word).toNat < 0x6000 ∧ State.reset.bank.bankingMode = .romBanking ∧
      ({ State.reset.bank with bankingMode := .ramBanking } : Bank).bankingMode = .ramBanking ∧
      0x6000 ≤ (0x6000 : Word).toNat ∧ (0x7FFF : Word).toNat < 0x8000 := by
  decide

/-- External RAM of 8 KiB, enabled. -/
def ramOn : State :=
  { State.reset with
    cart := { State.reset.cart with rom := [(0x149, 0x02)] }, bank := { State.reset.bank with ramEnabled := true } }

theorem test_witness_MemWriteStores :
    isPlain 0x8000 ∧ isPlain 0xFFFF ∧ isPlain 0xFF45 ∧ isPlain 0xFF47 ∧ 0xA000 ≤ (0xBFFF : Word).toNat ∧
      (0xBFFF : Word).toNat < 0xC000 ∧ 0x1FFF = ramOn.bank.ramBank.toNat * 0x2000 + ((0xBFFF : Word).toNat - 0xA000) ∧
      ramOn.bank.ramEnabled = true ∧ 0x1FFF < ramOn.cart.ramSize ∧ State.reset.bank.ramEnabled = false := by
  unfold isPlain
  decide

theorem test_witness_DmaCopies :
    (∃ t, t = State.memWrite 0xFF46 0xFF State.reset) ∧ 0x8B < 0x8C ∧ 0xFE8C ≤ 0xFE8C ∧ 0xFDFF < 0xFE00 :=
  ⟨⟨_, rfl⟩, by decide, by decide, by decide⟩

/-- Requests and enables as given. -/
def requested (f e : Byte) : State := withBus [(0xFF0F, f), (0xFFFF, e)] State.reset

theorem test_witness_DispatchPriority :
    (requested 0x10 0x1F).pending 4 ∧ (∀ j : Fin 5, j < 4 → ¬(requested 0x10 0x1F).pending j) ∧
      (requested 0xFF 0x01).pending 0 ∧ (∀ k : Fin 5, ¬(requested 0xE0 0xE0).pending k) := by
  unfold State.pending
  decide

theorem test_witness_InterruptDelivery :
    State.reset.ime = false ∧ ({ spot 0 2 0 with ime := true } : State).ime = true ∧ 2 ≤ (spot 0 2 0).sp.toNat ∧
      (spot 0 1 0).sp.toNat < 2 := by
  decide

theorem test_witness_EndOfStepBookkeeping : (nextOf (step State.reset)).isSome = true := by decide

theorem test_witness_ExternalRequestsFire :
    State.reset.extReq = [] ∧ ({ State.reset with extReq := [0x1F] } : State).extReq = 0x1F :: [] := by
  decide

theorem test_witness_HaltEndsOnlyByDelivery :
    (nextOf (step { requested 0 0x1F with halted := true, ime := true, extReq := [0x10] })).any
        (fun t => !t.halted && t.pc == 0x0060) = true := by
  decide

theorem test_witness_PpuLineAndPhase :
    153 = min (70247 / 456) 153 ∧ 479 = 70247 - 153 * 456 ∧ 0 = min (227 / 456) 153 ∧ 143 = min (65663 / 456) 153 := by
  decide

theorem test_witness_PpuRequestsAndBuffers :
    144 = min (65664 / 456) 153 ∧ (true = decide (144 ≠ State.reset.ppu.line)) ∧
      true = (decide (65664 ≤ 65664) && !State.reset.ppu.vblankFired) ∧
      true = (decide (0 < 144 ∧ 228 ≤ 228 - 0 * 456) && (false || !State.reset.ppu.rendered)) := by
  decide

/-- LCDC as given, window at the top left corner. -/
def lcdc (v : Byte) : State := withBus [(0xFF40, v), (0xFF4B, 0x07)] State.reset

theorem test_witness_PixelShade_window :
    ((lcdc 0x70).busRead 0xFF40).getLsbD 5 = true ∧ ((lcdc 0x70).busRead 0xFF4A).toNat ≤ 0 ∧
      ((lcdc 0x70).busRead 0xFF4B).toNat ≤ 0 + 7 ∧ ((lcdc 0x70).busRead 0xFF40).getLsbD 6 = true ∧
      ((lcdc 0x70).busRead 0xFF40).getLsbD 4 = true := by
  decide

theorem test_witness_PixelShade_background :
    ((lcdc 0x08).busRead 0xFF40).getLsbD 5 = false ∧ ((lcdc 0x08).busRead 0xFF40).getLsbD 3 = true ∧
      ((lcdc 0x08).busRead 0xFF40).getLsbD 4 = false ∧ ((lcdc 0x08).busRead (0x9C00 + 0 / 8 * 32 + 0 / 8)).toNat < 128 := by
  decide

/-- A halted machine with a byte of the bus and a byte of the external RAM written. -/
def waiting : State :=
  { withBus [(0xC000, 0x80)] ramOn with
    ime := true, halted := true, bank := { ramOn.bank with ram := [(0x1FFF, 0x01)] } }

theorem test_witness_InvariantPreserved : waiting.Inv ∧ (nextOf (step waiting)).isSome = true := by
  refine ⟨⟨⟨?_, ?_, ?_, ?_, ?_⟩, ⟨?_, ?_⟩, ⟨?_, ?_, ?_⟩, ⟨?_, Or.inl ⟨?_, ?_, ?_⟩, ?_, ?_⟩⟩, ?_⟩ <;> decide

/-- The least image that passes the load-time checks. -/
def leastCart : Cart := { rom := [(0x147, 0x03), (0x149, 0x05)], romLen := 0x150, unhandled := [] }

theorem test_witness_SessionStart :
    (match startSession leastCart [(0xC000, 0x12)] [] [] [] ResetRegs.default [] with
      | .ok s => s.busRead 0xC000 == 0x12
      | .error _ => false) = true ∧
      0x150 ≤ leastCart.romLen ∧ leastCart.byte 0x147 ∈ [0x00, 0x01, 0x02, (0x03 : Byte)] ∧
      leastCart.byte 0x149 ∈ [0x00, 0x01, 0x02, 0x03, 0x04, (0x05 : Byte)] := by
  decide

end Sys2Proof.Tests
end

section
/-! SUPPORT. The reset state, one lemma per part of it (R140, R141, R125, R130), and O60, assembled from them. -/

namespace Sys2Proof.Machine

/-- No bus byte is listed at reset, so every read answers the byte's `P_BUS_INIT` value (R141). -/
@[simp] theorem State.reset_busRead (addr : Nat) : State.reset.busRead addr = Config.busUnlisted addr := rfl

/-- The registers, F, SP, PC and the CPU's control bits (R140). -/
theorem State.reset_cpu :
    State.reset.regs = { a := 0x01, b := 0x00, c := 0x13, d := 0x00, e := 0xD8, h := 0x01, l := 0x4D } ∧
      State.reset.flags.toByte = 0xB0 ∧ State.reset.sp = 0xFFFE ∧ State.reset.pc = 0x0100 ∧
      State.reset.ime = false ∧ State.reset.halted = false ∧ State.reset.unimplementedSeen = false ∧
      State.reset.fault = none :=
  ⟨rfl, by decide, rfl, rfl, rfl, rfl, rfl, rfl⟩

/-- IF, IE and LY are 0 and STAT names phase 2 (R141): each is the unlisted value of its bus address. -/
theorem State.reset_deviceBytes :
    State.reset.busRead 0xFF0F = 0 ∧ State.reset.busRead 0xFFFF = 0 ∧ State.reset.busRead 0xFF44 = 0 ∧
      (State.reset.busRead 0xFF41).extractLsb' 0 2 = 2#2 := by
  simp only [State.reset_busRead]
  decide

/-- The bank controller (R125). -/
theorem State.reset_bank :
    State.reset.bank.romBank = 1 ∧ State.reset.bank.ramBank = 0 ∧ State.reset.bank.ramEnabled = false ∧
      State.reset.bank.bankingMode = .romBanking :=
  ⟨rfl, rfl, rfl, rfl⟩

/-- The PPU's line and edge flags, and the frame's cycle count (R130). -/
theorem State.reset_ppu :
    State.reset.ppu.line = 0 ∧ State.reset.ppu.rendered = false ∧ State.reset.ppu.vblankFired = false ∧
      State.reset.frameCycles = 0 :=
  ⟨rfl, rfl, rfl, rfl⟩

/-- Settles O60, from the values of the CPU, of the device bytes on the bus, of the bank controller and of the PPU. -/
theorem resetValues : Obligations.ResetValues := by
  obtain ⟨hregs, hf, hsp, hpc, hime, hhalted, hunimpl, hfault⟩ := State.reset_cpu
  obtain ⟨hif, hie, hly, hstat⟩ := State.reset_deviceBytes
  obtain ⟨hromBank, hramBank, hramEnabled, hmode⟩ := State.reset_bank
  exact ⟨hregs, hf, hsp, hpc, hime, hhalted, hunimpl, hfault, hif, hie, hly, hstat, hromBank, hramBank, hramEnabled,
    hmode, State.reset_ppu⟩

end Sys2Proof.Machine
end

section
/-! SUPPORT. The family 20_memory.md: what the switched bank register and STAT are as bit fields, MemRead and MemWrite window by
window, the DMA copy, and O45 to O48, assembled from them. -/

namespace Sys2Proof.Machine

/-! ## Bit fields of the bank registers and of STAT -/

/-- Two adjoining fields, as a number. -/
theorem toNat_append_add {m n : Nat} (x : BitVec m) (y : BitVec n) : (x ++ y).toNat = x.toNat * 2 ^ n + y.toNat := by
  rw [BitVec.toNat_append, ← Nat.shiftLeft_add_eq_or_of_lt y.isLt, Nat.shiftLeft_eq]

/-- The ROM bank with its low field replaced (R231). -/
theorem romBank_lowField (b : BitVec 7) (low : BitVec 5) :
    (b &&& 0x60) ||| low.setWidth 7 = (b.extractLsb' 5 2 ++ low : BitVec 7) := by
  ext i hi
  rw [BitVec.getElem_append (x := b.extractLsb' 5 2) (y := low)]
  interval_cases i <;> simp [← BitVec.getLsbD_eq_getElem]

/-- The ROM bank with its high field replaced (R232). -/
theorem romBank_highField (b : BitVec 7) (two : BitVec 2) :
    (b &&& 0x1F) ||| (two.setWidth 7 <<< 5) = (two ++ b.extractLsb' 0 5 : BitVec 7) := by
  ext i hi
  rw [BitVec.getElem_append (x := two) (y := b.extractLsb' 0 5)]
  interval_cases i <;> simp [← BitVec.getLsbD_eq_getElem]

/-- STAT with all but its phase field replaced (R203). -/
theorem stat_keepPhase (v old : Byte) :
    (v &&& 0xFC) ||| (old &&& 0x03) = (v.extractLsb' 2 6 ++ old.extractLsb' 0 2 : Byte) := by
  ext i hi
  rw [BitVec.getElem_append (x := v.extractLsb' 2 6) (y := old.extractLsb' 0 2)]
  interval_cases i <;> simp [← BitVec.getLsbD_eq_getElem]

/-- A raw store leaves every other byte. -/
theorem busRead_busPoke_ne (s : State) {addr i : Nat} (v : Byte) (h : i ≠ addr) :
    (s.busPoke addr v).busRead i = s.busRead i := by
  rw [busRead_busPoke, if_neg h]

/-! ## The bank-controller registers -/

/-- RAM enable looks at the low nibble only (R230). -/
theorem ramEnableWrite_eq (v : Byte) (b : Bank) :
    b.ramEnableWrite v = { b with ramEnabled := decide (v.toNat % 16 = 0xA) } := by
  have h : (v.extractLsb' 0 4 == Params.ramEnableCode) = decide (v.toNat % 16 = 0xA) := by
    rw [beq_eq_decide]
    simp [← BitVec.toNat_inj, Params.ramEnableCode]
  rw [Bank.ramEnableWrite, h]

/-- The value the ROM bank takes from a write to its low field: 0 is remapped to 1 (R231). -/
theorem romBankWrite_eq (v : Byte) (b : Bank) :
    ∃ n : BitVec 7, b.romBankWrite v = { b with romBank := n } ∧
      n.toNat = b.romBank.toNat / 32 * 32 + (if v.toNat % 32 = 0 then 1 else v.toNat % 32) := by
  refine ⟨_, rfl, ?_⟩
  have hlow : v.extractLsb' 0 5 = 0#5 ↔ v.toNat % 32 = 0 := by simp [← BitVec.toNat_inj]
  have hb := b.romBank.isLt
  have hhigh : (b.romBank.extractLsb' 5 2).toNat = b.romBank.toNat / 32 := by
    rw [BitVec.extractLsb'_toNat]
    omega
  rw [romBank_lowField, toNat_append_add, hhigh, apply_ite BitVec.toNat]
  simp [hlow]

/-- In ROM-banking mode the second bank register is bits 6 to 5 of the ROM bank (R232). -/
theorem bank2Write_romBanking {b : Bank} (v : Byte) (h : b.bankingMode = .romBanking) :
    ∃ n : BitVec 7, b.bank2Write v = { b with romBank := n } ∧
      n.toNat = b.romBank.toNat % 32 + v.toNat % 4 * 32 := by
  refine ⟨(v.extractLsb' 0 2 ++ b.romBank.extractLsb' 0 5 : BitVec 7), ?_, ?_⟩
  · simp only [Bank.bank2Write, h, romBank_highField]
  · rw [toNat_append_add (v.extractLsb' 0 2) (b.romBank.extractLsb' 0 5), BitVec.extractLsb'_toNat,
      BitVec.extractLsb'_toNat]
    omega

/-- In RAM-banking mode the second bank register is the RAM bank (R232). -/
theorem bank2Write_ramBanking {b : Bank} (v : Byte) (h : b.bankingMode = .ramBanking) :
    b.bank2Write v = { b with ramBank := v.extractLsb' 0 2 } := by
  simp only [Bank.bank2Write, h]

/-- Bit 0 of the value selects the mode (R233). -/
theorem modeWrite_eq (v : Byte) (b : Bank) :
    b.modeWrite v =
      if v.toNat % 2 = 0 then { b with bankingMode := .romBanking, ramBank := 0 }
      else { b with bankingMode := .ramBanking } := by
  have h : v.getLsbD 0 = true ↔ ¬ v.toNat % 2 = 0 := by simp [BitVec.getLsbD, Nat.testBit_zero]
  simp only [Bank.modeWrite, h, ite_not]

/-! ## External RAM -/

/-- An external-RAM access reaches the buffer exactly when it is enabled and its index is inside (R234). -/
theorem extRamReached_iff (s : State) (addr : Nat) :
    s.extRamReached addr = true ↔ s.bank.ramEnabled = true ∧ s.extRamIndex addr < s.cart.ramSize := by
  simp [State.extRamReached]

/-- A write that reaches the buffer stores at its index. -/
theorem extRamWrite_reached {s : State} {addr : Nat} (v : Byte) (h : s.extRamReached addr = true) :
    s.extRamWrite addr v =
      { s with bank := { s.bank with ram := Store.write Config.ramUnlisted s.bank.ram (s.extRamIndex addr) v } } :=
  if_pos h

/-- A write that does not reach the buffer is ignored. -/
theorem extRamWrite_unreached {s : State} {addr : Nat} (v : Byte) (h : ¬ s.extRamReached addr = true) :
    s.extRamWrite addr v = s :=
  if_neg h

/-- A byte that reaches the buffer reads back. -/
theorem extRamRead_extRamWrite {s : State} {addr : Nat} (v : Byte) (h : s.extRamReached addr = true) :
    (s.extRamWrite addr v).extRamRead addr = v := by
  have hr : (s.extRamWrite addr v).extRamReached addr = true := by rw [extRamWrite_reached v h]; exact h
  rw [State.extRamRead, if_pos hr, extRamWrite_reached v h]
  exact Store.read_write_same ..

/-! ## MemRead and MemWrite by window -/

section
variable (s : State) {a : Word} (v : Byte)

theorem memRead_rom0 (h : a.toNat < 0x4000) :
    s.memRead a = if a.toNat < s.cart.romLen then .ok (s.cart.byte a.toNat) else .error (.romBounds a a.toNat) := by
  simp only [State.memRead, State.romRead, State.romIndex, if_pos h, if_pos (show a.toNat < 0x8000 by omega)]

theorem memRead_romBank {k : Nat} (hlo : 0x4000 ≤ a.toNat) (hhi : a.toNat < 0x8000)
    (hk : k = s.bank.romBank.toNat * 0x4000 + (a.toNat - 0x4000)) :
    s.memRead a = if k < s.cart.romLen then .ok (s.cart.byte k) else .error (.romBounds a k) := by
  rw [hk]
  simp only [State.memRead, State.romRead, State.romIndex, if_pos hhi, if_neg (Nat.not_lt.mpr hlo)]

theorem memRead_extRam (hlo : 0xA000 ≤ a.toNat) (hhi : a.toNat < 0xC000) : s.memRead a = .ok (s.extRamRead a.toNat) := by
  rw [State.memRead, if_neg (by omega), if_pos ⟨hlo, hhi⟩]

theorem memRead_bus (h : (0x8000 ≤ a.toNat ∧ a.toNat < 0xA000) ∨ 0xC000 ≤ a.toNat) :
    s.memRead a = .ok (s.busRead a.toNat) := by
  rw [State.memRead, if_neg (by omega), if_neg (by omega)]

theorem memWrite_ramEnable (h : a.toNat < 0x2000) : s.memWrite a v = { s with bank := s.bank.ramEnableWrite v } :=
  if_pos h

theorem memWrite_romBank (hlo : 0x2000 ≤ a.toNat) (hhi : a.toNat < 0x4000) :
    s.memWrite a v = { s with bank := s.bank.romBankWrite v } := by
  rw [State.memWrite, if_neg (by omega), if_pos hhi]

theorem memWrite_bank2 (hlo : 0x4000 ≤ a.toNat) (hhi : a.toNat < 0x6000) :
    s.memWrite a v = { s with bank := s.bank.bank2Write v } := by
  rw [State.memWrite, if_neg (by omega), if_neg (by omega), if_pos hhi]

theorem memWrite_mode (hlo : 0x6000 ≤ a.toNat) (hhi : a.toNat < 0x8000) :
    s.memWrite a v = { s with bank := s.bank.modeWrite v } := by
  rw [State.memWrite, if_neg (by omega), if_neg (by omega), if_neg (by omega), if_pos hhi]

theorem memWrite_extRam (hlo : 0xA000 ≤ a.toNat) (hhi : a.toNat < 0xC000) :
    s.memWrite a v = s.extRamWrite a.toNat v := by
  rw [State.memWrite, if_neg (by omega), if_neg (by omega), if_neg (by omega), if_neg (by omega), if_pos ⟨hlo, hhi⟩]

theorem memWrite_bus (h : (0x8000 ≤ a.toNat ∧ a.toNat < 0xA000) ∨ 0xC000 ≤ a.toNat) :
    s.memWrite a v = s.busWrite a.toNat v := by
  rw [State.memWrite, if_neg (by omega), if_neg (by omega), if_neg (by omega), if_neg (by omega), if_neg (by omega)]

/-- A plain byte stands outside the windows of the bank controller. -/
theorem isPlain_onBus (h : isPlain a) : (0x8000 ≤ a.toNat ∧ a.toNat < 0xA000) ∨ 0xC000 ≤ a.toNat := by
  obtain ⟨hlo, hwindow, -⟩ := h
  omega

/-- A plain byte is stored raw (R202). -/
theorem memWrite_plain (h : isPlain a) : s.memWrite a v = s.busPoke a.toNat v := by
  have ⟨_, _, hstat, hly, hdma⟩ := h
  rw [memWrite_bus s v (isPlain_onBus h), State.busWrite, if_neg hstat, if_neg hly, if_neg hdma]

end

theorem memWrite_addrSTAT (s : State) (v : Byte) : s.memWrite 0xFF41 v = s.statWrite v :=
  memWrite_bus s v (.inr (by decide))

theorem memWrite_addrLY (s : State) (v : Byte) : s.memWrite 0xFF44 v = s :=
  memWrite_bus s v (.inr (by decide))

theorem memWrite_addrDMA (s : State) (v : Byte) : s.memWrite 0xFF46 v = s.dmaWrite v :=
  memWrite_bus s v (.inr (by decide))

/-! ## The DMA copy -/

/-- The ascending copy reads each byte before it could overwrite it, when the source ends before the destination or does not
start below it (R205). -/
theorem busRead_dmaCopy_inside {src n k : Nat} (s : State) (hk : k < n)
    (hsrc : src + n ≤ Params.addrOAM ∨ Params.addrOAM ≤ src) :
    (dmaCopy src n s).busRead (Params.addrOAM + k) = s.busRead (src + k) := by
  induction n with
  | zero => omega
  | succ n ih =>
    simp only [dmaCopy, busRead_busPoke]
    split
    · next h =>
      obtain rfl : k = n := by omega
      exact busRead_dmaCopy_outside s (by omega)
    · next h => exact ih (by omega) (by omega)

/-- A page's DMA source ends before the sprite-attribute region or does not start below it. -/
theorem dmaSource_before_or_not_below (page : Nat) :
    page * 256 + Params.dmaLength ≤ Params.addrOAM ∨ Params.addrOAM ≤ page * 256 := by
  simp only [Params.dmaLength, Params.addrOAM]
  omega

/-! ## The statements -/

/-- Settles O46, window by window, from what a write does to the register of each. -/
theorem bankRegisterWrites : Obligations.BankRegisterWrites := by
  unfold Obligations.BankRegisterWrites
  intro s a v
  refine ⟨fun h => ?_, fun hlo hhi => ?_, fun hlo hhi hmode => ?_, fun hlo hhi hmode => ?_, fun hlo hhi => ?_⟩
  · rw [memWrite_ramEnable s v h, ramEnableWrite_eq]
  · obtain ⟨n, hbank, hn⟩ := romBankWrite_eq v s.bank
    exact ⟨n, by rw [memWrite_romBank s v hlo hhi, hbank], hn⟩
  · obtain ⟨n, hbank, hn⟩ := bank2Write_romBanking v hmode
    exact ⟨n, by rw [memWrite_bank2 s v hlo hhi, hbank], hn⟩
  · exact ⟨v.extractLsb' 0 2, by rw [memWrite_bank2 s v hlo hhi, bank2Write_ramBanking v hmode], by simp⟩
  · rw [memWrite_mode s v hlo hhi, modeWrite_eq]

/-- Settles O47: MemWrite is a raw store at a plain byte, the masked store at STAT, nothing at LY, and the gated store in the
external-RAM window. -/
theorem memWriteStores : Obligations.MemWriteStores := by
  unfold Obligations.MemWriteStores
  intro s a v
  refine ⟨fun h => ?_, ?_, ?_, ?_⟩
  · rw [memWrite_plain s v h, memRead_bus _ (isPlain_onBus h), busRead_busPoke_same]
    exact ⟨rfl, rfl, fun k hk => busRead_busPoke_ne s _ hk⟩
  · rintro rfl
    rw [memWrite_addrSTAT, State.statWrite, stat_keepPhase]
    exact ⟨busRead_busPoke_same .., rfl, fun k hk => busRead_busPoke_ne s _ hk⟩
  · rintro rfl
    exact memWrite_addrLY s v
  · intro hlo hhi k hk
    rw [show k = s.extRamIndex a.toNat from hk, memWrite_extRam s v hlo hhi]
    refine ⟨fun hon hin => ?_, fun hout => ?_⟩
    · have hr : s.extRamReached a.toNat = true := (extRamReached_iff ..).mpr ⟨hon, hin⟩
      rw [memRead_extRam _ hlo hhi, extRamRead_extRamWrite v hr, extRamWrite_reached v hr]
      exact ⟨rfl, rfl, fun m hm => Store.read_write_other _ _ _ _ hm⟩
    · refine extRamWrite_unreached v fun hr => ?_
      obtain ⟨hon, hin⟩ := (extRamReached_iff ..).mp hr
      rcases hout with hoff | hpast
      · exact Bool.false_ne_true (hoff.symm.trans hon)
      · exact absurd hin (Nat.not_lt.mpr hpast)

/-- Settles O48: the trigger lies outside the destination, and no page's source starts below it and runs into it. -/
theorem dmaCopies : Obligations.DmaCopies := by
  unfold Obligations.DmaCopies
  rintro s t v rfl
  rw [memWrite_addrDMA]
  refine ⟨dmaWrite_bus v s, ?_, fun k hk => ?_, fun a ha hout => ?_⟩
  · exact (busRead_dmaCopy_outside _ (.inr (by decide))).trans (busRead_busPoke_same ..)
  · exact (busRead_dmaCopy_inside _ hk (dmaSource_before_or_not_below _)).trans (busRead_busPoke ..)
  · rw [State.dmaWrite, busRead_dmaCopy_outside _ hout]
    exact busRead_busPoke_ne s v ha

/-- Settles O45, window by window. -/
theorem memReadWindows : Obligations.MemReadWindows := by
  unfold Obligations.MemReadWindows
  intro s a k
  refine ⟨memRead_rom0 s, memRead_romBank s, fun hlo hhi hk => ?_, memRead_bus s⟩
  rw [show k = s.extRamIndex a.toNat from hk, memRead_extRam s hlo hhi, State.extRamRead]
  simp only [extRamReached_iff]

end Sys2Proof.Machine
end

section
/-! SUPPORT. The family 30_encoding.md, lengths: the length that a decoder reads off the one-byte map at the first byte (R309),
that every encoding has it, and O4, assembled from them. -/

namespace Sys2Proof

/-- The length that the first byte's cell tells (R309): that of its entry, 2 after the byte 0xCB, and the single byte of an
undefined row (R307). -/
def Cell.instrLength : Cell → Nat
  | .entry e => e.length
  | .undefined _ => 1
  | .escape => 2

/-- The byte 0xCB is the one-byte map's escape cell (R305). -/
theorem opCell_0xCB : opCell 0xCB = .escape := rfl

/-- A cell of the one-byte map (R305) tells a length of 1, 2 or 3. -/
theorem instrLength_opCell_bounds : ∀ b : Byte, 1 ≤ (opCell b).instrLength ∧ (opCell b).instrLength ≤ 3 := by
  decide

/-- Row by row: the cell of the first byte tells how many bytes the encoder writes, whatever the operand is. -/
theorem encode_eq_cons (i : Instr) : ∃ b m, encode i = b :: m ∧ (opCell b).instrLength = m.length + 1 := by
  cases i <;> exact ⟨_, _, rfl, rfl⟩

/-- The tail of an encoding is what the first byte's cell leaves for it. -/
theorem instrLength_of_encode {i : Instr} {b : Byte} {m : List Byte} (h : encode i = b :: m) :
    (opCell b).instrLength = m.length + 1 := by
  obtain ⟨b', m', h', hlen⟩ := encode_eq_cons i
  obtain ⟨rfl, rfl⟩ := List.cons.inj (h'.symm.trans h)
  exact hlen

/-- Settles O4: each clause is read off the cell of the first byte. -/
theorem instructionLengths : Obligations.InstructionLengths := by
  unfold Obligations.InstructionLengths
  refine ⟨fun i => ?_, fun i j b m n hi hj => ?_, fun i m hi => ?_, fun i b m e hi he => ?_⟩
  · obtain ⟨b, m, hi, hlen⟩ := encode_eq_cons i
    rw [hi, List.length_cons, ← hlen]
    exact instrLength_opCell_bounds b
  · exact Nat.succ.inj ((instrLength_of_encode hi).symm.trans (instrLength_of_encode hj))
  · have hlen := instrLength_of_encode hi
    rw [opCell_0xCB] at hlen
    exact (Nat.succ.inj hlen).symm
  · have hlen := instrLength_of_encode hi
    rwa [he] at hlen

end Sys2Proof
end

section
/-! SUPPORT. The family 43_alu8.md, the adjustments of A and of the flags (R729 to R732): the encoding by form, what DAA and CPL
write, and O24 and O25, assembled from them. -/

namespace Sys2Proof.Machine

open Sys2Proof

/-- Every instruction's bytes are its form's bit pattern, as `exec_form` says of its meaning (R302, R303). -/
theorem encode_form (i : Instr) : encode i = (formOf i).bytes := by cases i <;> rfl

/-- The two questions about an instruction, put to its form: what its bytes are, and what it answers. -/
theorem encode_exec_of_form {i : Instr} {f : Form} {s : State} {bytes : List Byte} {r : Result} (hi : formOf i = f)
    (hbytes : f.bytes = bytes) (hrun : runForm f s = r) : encode i = bytes ∧ exec i s = r := by
  subst hi
  exact ⟨(encode_form i).trans hbytes, (exec_form i s).trans hrun⟩

/-! ## `trunc8` -/

@[simp] theorem trunc8_toNat (a : Byte) : trunc8 (a.toNat : Int) = a := by simp [trunc8]

@[simp] theorem trunc8_ofNat (n : Nat) : trunc8 ofNat(n) = BitVec.ofNat 8 ofNat(n) :=
  BitVec.ofInt_ofNat 8 n

theorem trunc8_add (x y : Int) : trunc8 (x + y) = trunc8 x + trunc8 y := BitVec.ofInt_add x y

theorem trunc8_sub (x y : Int) : trunc8 (x - y) = trunc8 x - trunc8 y := by
  rw [Int.sub_eq_add_neg, trunc8_add, BitVec.sub_eq_add_neg]
  exact congrArg _ BitVec.ofInt_neg

/-! ## DAA -/

/-- The correction of A after an add (R729): 0x60 leaves the low digit as it was, so both tests look at the old A. -/
theorem daa8_afterAdd (a : Byte) {f : Flags} (hn : f.n = false) :
    (daa8 a f).1 =
      a + (if f.c = true ∨ 0x99 < a.toNat then 0x60 else 0) + (if f.h = true ∨ 9 < a.toNat % 16 then 0x06 else 0) := by
  have hhigh : (0x99 : Int) < a.toNat ↔ 0x99 < a.toNat := by omega
  have hlow : (9 : Int) < (a.toNat : Int) % 16 ↔ 9 < a.toNat % 16 := by omega
  have hkept : ((a.toNat : Int) + 0x60) % 16 = (a.toNat : Int) % 16 := by omega
  by_cases hc : f.c = true ∨ 0x99 < a.toNat
  · by_cases hd : f.h = true ∨ 9 < a.toNat % 16
    · simp [daa8, hn, hhigh, hlow, hkept, hc, hd, trunc8_add]
    · simp [daa8, hn, hhigh, hlow, hkept, hc, hd, trunc8_add]
  · by_cases hd : f.h = true ∨ 9 < a.toNat % 16
    · simp [daa8, hn, hhigh, hlow, hc, hd, trunc8_add]
    · simp [daa8, hn, hhigh, hlow, hc, hd]

/-- The correction of A after a subtract (R729). -/
theorem daa8_afterSubtract (a : Byte) {f : Flags} (hn : f.n = true) :
    (daa8 a f).1 = a - (if f.c then 0x60 else 0) - (if f.h then 0x06 else 0) := by
  cases hc : f.c <;> cases hh : f.h <;> simp [daa8, hn, hc, hh, trunc8_sub]

/-- The flags of DAA (R729): only an add with A above 0x99 sets fC. -/
theorem daa8_flags (a : Byte) (f : Flags) :
    (daa8 a f).2 =
      { z := decide ((daa8 a f).1 = 0), n := f.n, h := false
        c := f.c || (!f.n && decide (0x99 < a.toNat)) } := by
  have hz : (daa8 a f).2.z = decide ((daa8 a f).1 = 0) := rfl
  rw [← hz]
  cases hn : f.n <;> simp [daa8, hn]

/-- DAA writes A and the flags (R729). -/
theorem daaA_eq (s : State) :
    daaA s = .next ((s.setReg .a (daa8 s.regs.a s.flags).1).setFlags (daa8 s.regs.a s.flags).2) :=
  modify_reg .a daa8 s

/-- Settles O24: the correction of A by the branch that fN chooses, its flags by `daa8_flags`. -/
theorem decimalAdjust : Obligations.DecimalAdjust := by
  unfold Obligations.DecimalAdjust
  intro i s r hi hpc hr
  have hval : (daa8 s.regs.a s.flags).1 = r := by
    rw [hr]
    split
    · next hn => exact daa8_afterSubtract _ hn
    · next hn => exact daa8_afterAdd _ (Bool.eq_false_of_not_eq_true hn)
  refine encode_exec_of_form hi rfl ((execute_next hpc).trans ?_)
  simp only [daaA_eq, daa8_flags, hval]
  rfl

/-! ## CPL, SCF and CCF -/

/-- CPL inverts every bit of A and writes the flags (R730). -/
theorem cplA_eq (s : State) :
    cplA s = .next ((s.setReg .a (~~~s.regs.a)).setFlags { s.flags with n := true, h := true }) := by
  have hinv : s.regs.a ^^^ 0xFF = ~~~s.regs.a := BitVec.xor_allOnes
  rw [← hinv]
  exact modify_reg .a cpl8 s

/-- Settles O25: each instruction's rule inside the frame of R406 and R409. -/
theorem complementAndCarryFlags : Obligations.ComplementAndCarryFlags := by
  unfold Obligations.ComplementAndCarryFlags
  intro i s hpc
  refine ⟨fun hi => ?_, fun hi => ?_, fun hi => ?_⟩
  · refine encode_exec_of_form hi rfl ((execute_next hpc).trans ?_)
    rw [cplA_eq]
    rfl
  · exact encode_exec_of_form hi rfl (execute_next hpc)
  · exact encode_exec_of_form hi rfl (execute_next hpc)

end Sys2Proof.Machine
end

section
/-! SUPPORT. The family 44_alu16.md (R801 to R805): exact integers narrowed to 16 bits, the pairs, what each rule answers, and O26 to
O28, assembled from them. -/

namespace Sys2Proof.Machine

/-! ## `trunc16` -/

theorem trunc16_add (x y : Int) : trunc16 (x + y) = trunc16 x + trunc16 y := BitVec.ofInt_add x y

/-- The next 16-bit value, wrapped (R802). -/
theorem trunc16_succ (w : Word) : trunc16 (w.toNat + 1) = w + 1 := by
  rw [trunc16_add, trunc16_toNat]
  rfl

/-- The 16-bit value before, wrapped (R803). -/
theorem trunc16_pred (w : Word) : trunc16 (w.toNat - 1) = w - 1 := by
  rw [Int.sub_eq_add_neg, trunc16_add, trunc16_toNat, BitVec.sub_eq_add_neg]
  rfl

/-- A displacement added to a 16-bit value, wrapped: `e = sext_16(imm8)` (R304, R805). -/
theorem trunc16_add_s8 (w : Word) (e : Byte) : trunc16 (w.toNat + s8 e) = w + e.signExtend 16 := by
  rw [trunc16_add, trunc16_toNat]
  rfl

/-! ## The pairs -/

/-- A pair reads back what was written to it (R104). -/
@[simp] theorem State.pair_setPair_same (s : State) (p : Pair) (v : Word) : (s.setPair p v).pair p = v := by
  cases p with
  | bc => exact wordOf_hiByte_loByte v
  | de => exact wordOf_hiByte_loByte v
  | hl => exact wordOf_hiByte_loByte v
  | sp => rfl

/-- No pair is read from PC. -/
@[simp] theorem State.pair_withPC (s : State) (p : Pair) (pc : Word) : { s with pc := pc }.pair p = s.pair p := by
  cases p <;> rfl

/-- A pair's write and the sequential advance do not touch each other. -/
theorem State.setPair_withPC (s : State) (p : Pair) (v pc : Word) :
    { s with pc := pc }.setPair p v = { s.setPair p v with pc := pc } := by
  cases p <;> rfl

theorem assignSP_next {v : Int} {s : State} (h : 0 ≤ v ∧ v ≤ 0xFFFF) : assignSP v s = .next { s with sp := trunc16 v } :=
  if_pos h

/-- BC, DE and HL take any value wrapped, SP one in its range (R104, R106, R800). -/
theorem assignPair_next {p : Pair} {v : Int} {s : State} (h : p = .sp → 0 ≤ v ∧ v ≤ 0xFFFF) :
    assignPair p v s = .next (s.setPair p (trunc16 v)) := by
  by_cases hp : p = .sp
  · subst hp
    exact assignSP_next (h rfl)
  · exact assignPair_pair hp

/-! ## The frame of a rule whose answer is known -/

section
variable {len cost : Nat} {rule : State → Result} {s : State} (hpc : s.pc.toNat + len ≤ 0xFFFF)
include hpc

theorem execute_of_rule_next {t : State} (h : rule { s with pc := s.pc + BitVec.ofNat 16 len } = .next t) :
    execute len cost rule s = .next (t.returnCycles cost) := by
  rw [execute_next hpc, h, andThen_next]

theorem execute_of_rule_raise {r : FaultRecord} {t : State}
    (h : rule { s with pc := s.pc + BitVec.ofNat 16 len } = raise r t) : execute len cost rule s = raise r t := by
  rw [execute_next hpc, h, andThen_raise]

/-- The only fields that a pair's assignment inside the frame writes: the pair, PC and the cycle count. -/
theorem execute_of_rule_setPair {p : Pair} {v : Word}
    (h : rule { s with pc := s.pc + BitVec.ofNat 16 len } =
      .next ({ s with pc := s.pc + BitVec.ofNat 16 len }.setPair p v)) :
    execute len cost rule s =
      .next { s.setPair p v with pc := s.pc + BitVec.ofNat 16 len, stepCycles := cost } := by
  rw [execute_of_rule_next hpc h, State.setPair_withPC]
  rfl

end

/-! ## What each rule answers -/

/-- ADD HL,rr writes HL and the flags but fZ (R801). -/
theorem addHL_eq (p : Pair) (s : State) :
    addHL p s =
      .next ((s.setHL (s.regs.hl + s.pair p)).setFlags
        { z := s.flags.z, n := false
          h := decide (0x0FFF < s.regs.hl.toNat % 0x1000 + (s.pair p).toNat % 0x1000)
          c := decide (0xFFFF < s.regs.hl.toNat + (s.pair p).toNat) }) :=
  rfl

/-- INC rr, but at SP's upper end (R802). -/
theorem incPair_next {p : Pair} {s : State} (h : p = .sp → s.sp ≠ 0xFFFF) :
    incPair p s = .next (s.setPair p (s.pair p + 1)) := by
  rw [← trunc16_succ]
  refine assignPair_next fun hp => ?_
  subst hp
  have hsp : s.sp.toNat ≠ 0xFFFF := BitVec.toNat_ne.mp (h rfl)
  have hlt := s.sp.isLt
  simp only [State.pair]
  omega

/-- INC SP at the upper end (R802). -/
theorem incPair_fault {s : State} (h : s.sp = 0xFFFF) : incPair .sp s = raise (.spRange 0x10000) s := by
  have hv : ((s.pair .sp).toNat : Int) + 1 = 0x10000 := by rw [State.pair, h]; rfl
  rw [incPair, hv]
  exact assignSP_fault (by decide)

/-- DEC rr, but at SP's lower end (R803). -/
theorem decPair_next {p : Pair} {s : State} (h : p = .sp → s.sp ≠ 0) :
    decPair p s = .next (s.setPair p (s.pair p - 1)) := by
  rw [← trunc16_pred]
  refine assignPair_next fun hp => ?_
  subst hp
  have hsp : s.sp.toNat ≠ 0 := BitVec.toNat_ne.mp (h rfl)
  have hlt := s.sp.isLt
  simp only [State.pair]
  omega

/-- DEC SP at the lower end (R803). -/
theorem decPair_fault {s : State} (h : s.sp = 0) : decPair .sp s = raise (.spRange (-1)) s := by
  have hv : ((s.pair .sp).toNat : Int) - 1 = -1 := by rw [State.pair, h]; rfl
  rw [decPair, hv]
  exact assignSP_fault (by decide)

/-- ADD SP,r8 with the sum in SP's range (R804). -/
theorem addSP_next {e : Byte} {s : State} (h : 0 ≤ (s.sp.toNat : Int) + e.toInt ∧ (s.sp.toNat : Int) + e.toInt ≤ 0xFFFF) :
    addSP e s = .next { s with flags := spAddFlags s.sp e, sp := s.sp + e.signExtend 16 } := by
  rw [← trunc16_add_s8]
  exact assignSP_next h

/-- ADD SP,r8 with the sum outside SP's range: the flags are written and SP is not (R804). -/
theorem addSP_fault {e : Byte} {s : State} (h : (s.sp.toNat : Int) + e.toInt < 0 ∨ 0xFFFF < (s.sp.toNat : Int) + e.toInt) :
    addSP e s = raise (.spRange (s.sp.toNat + e.toInt)) { s with flags := spAddFlags s.sp e } :=
  assignSP_fault (v := s.sp.toNat + e.toInt) (by omega)

/-- LD HL,SP+r8 writes the flags and HL (R805). -/
theorem ldHLSP_eq (e : Byte) (s : State) :
    ldHLSP e s = .next ((s.setFlags (spAddFlags s.sp e)).setHL (s.sp + e.signExtend 16)) := by
  rw [ldHLSP, trunc16_add_s8]

/-! ## The statements -/

/-- Settles O26: the sum of R801 inside the frame of R406 and R409. -/
theorem addToHL : Obligations.AddToHL := by
  unfold Obligations.AddToHL
  rintro i s p r hi hpc rfl
  refine encode_exec_of_form hi rfl ((execute_of_rule_next hpc (addHL_eq p _)).trans ?_)
  rw [State.pair_withPC]
  rfl

/-- Settles O27: a pair's assignment inside the frame, or the fault at an end of SP's range. -/
theorem incDecPair : Obligations.IncDecPair := by
  unfold Obligations.IncDecPair
  intro i s p hpc
  refine ⟨fun hi => ?_, fun hi => ?_, s.pair_setPair_same p⟩
  · rw [encode_form, exec_form, hi]
    refine ⟨rfl, fun hin => ?_, ?_⟩
    · rw [← s.pair_withPC p (s.pc + 1)]
      exact execute_of_rule_setPair hpc (incPair_next hin)
    · rintro ⟨rfl, hend⟩
      exact execute_of_rule_raise hpc (incPair_fault hend)
  · rw [encode_form, exec_form, hi]
    refine ⟨rfl, fun hin => ?_, ?_⟩
    · rw [← s.pair_withPC p (s.pc + 1)]
      exact execute_of_rule_setPair hpc (decPair_next hin)
    · rintro ⟨rfl, hend⟩
      exact execute_of_rule_raise hpc (decPair_fault hend)

/-- Settles O28: the flags, then the range-checked sum into SP or the wrapped sum into HL. -/
theorem spRelativeAdds : Obligations.SPRelativeAdds := by
  unfold Obligations.SPRelativeAdds
  rintro i s e f r hpc rfl rfl
  refine ⟨fun hi => ?_, fun hi => ?_⟩
  · rw [encode_form, exec_form, hi]
    refine ⟨rfl, fun hin => ?_, fun hout => ?_⟩
    · exact execute_of_rule_next hpc (addSP_next hin)
    · exact execute_of_rule_raise hpc (addSP_fault hout)
  · exact encode_exec_of_form hi rfl (execute_of_rule_next hpc (ldHLSP_eq e _))

end Sys2Proof.Machine
end

section
/-! SUPPORT. The family 46_bit.md (R1001 to R1006): what a read-modify-write and a test of an operand answer inside the frame of one
instruction, and O31, assembled from them. -/

namespace Sys2Proof.Machine

/-! ## The operand and the other fields -/

/-- The sequential advance does not change what an operand reads. -/
theorem State.targetReads_withPC {s : State} {t : Target} {v : Byte} (pc : Word) (h : s.targetReads t v) :
    { s with pc := pc }.targetReads t v := by
  cases t with
  | reg r => exact h
  | memHL => exact (memRead_setPc s s.regs.hl pc).trans h

/-- An operand's write and the sequential advance do not touch each other. -/
theorem State.writeTarget_withPC (s : State) (t : Target) (v : Byte) (pc : Word) :
    { s with pc := pc }.writeTarget t v = { s.writeTarget t v with pc := pc } := by
  cases t with
  | reg r => rfl
  | memHL => exact memWrite_setPc s s.regs.hl v pc

/-- An operand's write writes no flag. -/
@[simp] theorem State.writeTarget_flags (s : State) (t : Target) (v : Byte) : (s.writeTarget t v).flags = s.flags := by
  cases t with
  | reg r => rfl
  | memHL => exact memWrite_flags s.regs.hl v s

/-! ## The two operand rules inside the frame -/

section
variable {len cost : Nat} {s : State} {t : Target} {v : Byte} (hread : s.targetReads t v) (hpc : s.pc.toNat + len ≤ 0xFFFF)
include hread hpc

/-- A test writes the flags, PC and the cycle count (R1001, R1002). -/
theorem execute_examine (f : Byte → Flags → Flags) :
    execute len cost (examine t f) s =
      .next { s with flags := f v s.flags, pc := s.pc + BitVec.ofNat 16 len, stepCycles := cost } :=
  execute_of_rule_next hpc (examine_reads (State.targetReads_withPC _ hread))

/-- A read-modify-write writes the operand, the flags, PC and the cycle count (R906, R1004). -/
theorem execute_modify (f : Byte → Flags → Byte × Flags) :
    execute len cost (modify t f) s =
      .next { s.writeTarget t (f v s.flags).1 with
        flags := (f v s.flags).2, pc := s.pc + BitVec.ofNat 16 len, stepCycles := cost } := by
  rw [execute_of_rule_next hpc (modify_reads (State.targetReads_withPC _ hread)), State.writeTarget_withPC]
  rfl

/-- A read-modify-write that keeps the flags it is given (R1003 to R1006). -/
theorem execute_modify_keepsFlags {f : Byte → Flags → Byte × Flags} {w : Byte} (hf : f v s.flags = (w, s.flags)) :
    execute len cost (modify t f) s =
      .next { s.writeTarget t w with pc := s.pc + BitVec.ofNat 16 len, stepCycles := cost } := by
  rw [execute_modify hread hpc, hf, ← s.writeTarget_flags t w]

end

/-! ## The mask of one bit (R1003, R1005) -/

theorem resBit_eq (b : Fin 8) (v : Byte) (f : Flags) : resBit b v f = (v &&& ~~~(BitVec.twoPow 8 b.val), f) := rfl

theorem setBit_eq (b : Fin 8) (v : Byte) (f : Flags) : setBit b v f = (v ||| BitVec.twoPow 8 b.val, f) := rfl

/-! ## The forms of BIT, RES and SET, whichever the operand is -/

theorem runForm_bit (b : Fin 8) (t : Target) :
    runForm (.bit b t) = execute 2 (if t = .memHL then 12 else 8) (bitTarget b t) := by
  cases t <;> rfl

theorem runForm_res (b : Fin 8) (t : Target) :
    runForm (.res b t) = execute 2 (if t = .memHL then 16 else 8) (resTarget b t) := by
  cases t <;> rfl

theorem runForm_set (b : Fin 8) (t : Target) :
    runForm (.set b t) = execute 2 (if t = .memHL then 16 else 8) (setTarget b t) := by
  cases t <;> rfl

/-! ## The statement -/

/-- Settles O31: BIT is a test of the operand, RES and SET a read-modify-write that keeps the flags. -/
theorem bitResSet : Obligations.BitResSet := by
  unfold Obligations.BitResSet
  intro i s b t v hread hpc
  refine ⟨fun hi => ?_, fun hi => ?_, fun hi => ?_⟩
  · refine encode_exec_of_form hi rfl ?_
    rw [runForm_bit]
    exact execute_examine hread hpc (bitFlags b)
  · refine encode_exec_of_form hi rfl ?_
    rw [runForm_res]
    exact execute_modify_keepsFlags hread hpc (resBit_eq b v _)
  · refine encode_exec_of_form hi rfl ?_
    rw [runForm_set]
    exact execute_modify_keepsFlags hread hpc (setBit_eq b v _)

end Sys2Proof.Machine
end

section
/-! SUPPORT. The family 60_exceptions.md: the delivery of an interrupt and its dispatch (R1311, R1312, R1320, R1321), what each part of
a PPU step does to the line, STAT and LY (R1340 to R1347), and O49, O50 and O54, assembled from them. -/

namespace Sys2Proof.Machine

/-! ## Delivery of an interrupt -/

/-- MemWrite does not look at the control bits that a delivery clears. -/
theorem memWrite_setHaltedIme (s : State) (addr : Word) (v : Byte) (halted ime : Bool) :
    State.memWrite addr v { s with halted := halted, ime := ime } =
      { s.memWrite addr v with halted := halted, ime := ime } :=
  (memWrite_update s addr v s.regs s.flags s.pc s.sp ime halted s.unimplementedSeen s.stepCycles).trans (by simp)

/-- IME gates the delivery (R1320). -/
theorem takeInterrupt_masked {s : State} (vector : Word) (h : s.ime = false) : takeInterrupt vector s = .next s :=
  if_neg (Bool.eq_false_iff.mp h)

/-- With IME set, PC is pushed by a machine that has halted and IME cleared already (R1320). -/
theorem takeInterrupt_unmasked {s : State} (vector : Word) (h : s.ime = true) :
    takeInterrupt vector s =
      andThen (push16 s.pc { s with halted := false, ime := false }) (assignPC vector.toNat) :=
  if_pos h

/-- Settles O50: the push with room and without it, on the machine with halted and IME cleared. -/
theorem interruptDelivery : Obligations.InterruptDelivery := by
  unfold Obligations.InterruptDelivery
  intro s vector
  refine ⟨takeInterrupt_masked vector, fun hime hroom => ?_, fun hime hnoRoom => ?_⟩
  · rw [takeInterrupt_unmasked vector hime, push16_next (s := { s with halted := false, ime := false }) hroom,
      andThen_next, assignPC_word, memWrite_setHaltedIme s, memWrite_setHaltedIme (s.memWrite _ _)]
  · rw [takeInterrupt_unmasked vector hime, push16_fault (s := { s with halted := false, ime := false }) hnoRoom,
      andThen_raise]

/-! ## Dispatch -/

/-- The vectors stand eight bytes apart from 0x0040 on (R1321). -/
theorem vector_eq : ∀ k : Fin 5, Params.vector k = BitVec.ofNat 16 (0x40 + 8 * k.val) := by
  decide

/-- The test of the scan is that the request is pending (R1312). -/
theorem icSelect_test (s : State) (k : Fin 5) :
    ((s.busRead Params.addrIF).getLsbD k.val && (s.busRead Params.addrIE).getLsbD k.val) = true ↔ s.pending k :=
  Bool.and_eq_true_iff

/-- The scan, which runs over the requests in order, finds the lowest pending one (R1312). -/
theorem icSelect_eq_some_iff {s : State} {k : Fin 5} :
    icSelect s = some k ↔ s.pending k ∧ ∀ j : Fin 5, j < k → ¬s.pending j := by
  simp only [← icSelect_test]
  exact List.find?_ofFn_eq_some_of_injective (f := id) Function.injective_id

/-- The scan finds nothing when no request is pending (R1312). -/
theorem icSelect_eq_none {s : State} (h : ∀ k : Fin 5, ¬s.pending k) : icSelect s = none :=
  List.find?_eq_none.mpr fun k _ => (icSelect_test s k).not.mpr (h k)

/-- A pending request is a common bit of IF and IE (R1311). -/
theorem icHasPending_of_pending {s : State} {k : Fin 5} (h : s.pending k) : icHasPending s = true := by
  refine bne_iff_ne.mpr fun hzero => ?_
  have hbit := (icSelect_test s k).mpr h
  rw [← BitVec.getLsbD_and, hzero] at hbit
  simp at hbit

/-- Settles O49: what the scan finds decides the dispatch. -/
theorem dispatchPriority : Obligations.DispatchPriority := by
  unfold Obligations.DispatchPriority
  refine fun s => ⟨fun k hk hlow => ?_, fun hnone => ?_⟩
  · rw [icDispatch, if_pos (icHasPending_of_pending hk), icSelect_eq_some_iff.mpr ⟨hk, hlow⟩, ← vector_eq]
  · rw [icDispatch, icSelect_eq_none hnone]
    exact ite_self _

/-! ## The line, STAT and LY through each part of a PPU step -/

/-- STAT with its phase field replaced (R1344). -/
theorem stat_setPhase (v : Byte) (mode : BitVec 2) :
    (v &&& 0xFC) ||| mode.setWidth 8 = (v.extractLsb' 2 6 ++ mode : Byte) := by
  ext i hi
  rw [BitVec.getElem_append (x := v.extractLsb' 2 6) (y := mode)]
  interval_cases i <;> simp [← BitVec.getLsbD_eq_getElem]

/-- A request writes IF only (R1311). -/
theorem busRead_icFire_ne (k : Fin 5) (s : State) {a : Nat} (h : a ≠ Params.addrIF) :
    (icFire k s).busRead a = s.busRead a :=
  busRead_busPoke_ne s _ h

/-- A line start takes the new line (R1342). -/
@[simp] theorem lineStart_line (ln : Nat) (s : State) : (lineStart ln s).ppu.line = ln := by
  simp only [lineStart]
  split <;> rfl

/-- A line start writes LY, advanced by one modulo 154, and perhaps IF (R1342). -/
theorem busRead_lineStart (ln : Nat) (s : State) {a : Nat} (h : a ≠ Params.addrIF) :
    (lineStart ln s).busRead a =
      if a = Params.addrLY then BitVec.ofNat 8 (((s.busRead Params.addrLY).toNat + 1) % 154) else s.busRead a := by
  simp only [lineStart]
  split
  · exact (busRead_icFire_ne 1 _ h).trans (busRead_busPoke ..)
  · exact busRead_busPoke ..

/-- H-blank rendering writes no bus byte (R1345). -/
@[simp] theorem busRead_hblank (mode : BitVec 2) (s : State) (a : Nat) : (hblank mode s).busRead a = s.busRead a := by
  unfold hblank
  split <;> rfl

/-- H-blank rendering keeps the line (R1345). -/
@[simp] theorem hblank_line (mode : BitVec 2) (s : State) : (hblank mode s).ppu.line = s.ppu.line := by
  unfold hblank
  split <;> rfl

/-- The V-blank edge writes IF only (R1347). -/
theorem busRead_vblankEdge_ne (cum : Nat) (s : State) {a : Nat} (h : a ≠ Params.addrIF) :
    (vblankEdge cum s).busRead a = s.busRead a := by
  unfold vblankEdge
  split
  · split
    · rfl
    · exact busRead_icFire_ne 0 s h
  · rfl

/-- The V-blank edge keeps the line (R1347). -/
@[simp] theorem vblankEdge_line (cum : Nat) (s : State) : (vblankEdge cum s).ppu.line = s.ppu.line := by
  unfold vblankEdge
  split
  · split <;> rfl
  · rfl

/-! ## The whole PPU step -/

/-- After a PPU step, `line` is the line of the cycle count (R1341, R1342). -/
theorem ppuStep_line (cum : Nat) (s : State) : (ppuStep cum s).ppu.line = lineOf cum := by
  simp only [ppuStep, vblankEdge_line, hblank_line, setStatPhase, State.busPoke_ppu]
  split
  · next h => exact h.symm
  · exact lineStart_line _ s

/-- A PPU step writes the phase into STAT and leaves its other bits (R1343, R1344). -/
theorem busRead_ppuStep_STAT (cum : Nat) (s : State) :
    (ppuStep cum s).busRead Params.addrSTAT =
      (s.busRead Params.addrSTAT).extractLsb' 2 6 ++ phaseOf (lineOf cum) (cum - lineOf cum * Params.lineCycles) := by
  have hif : Params.addrSTAT ≠ Params.addrIF := by decide
  simp only [ppuStep, busRead_vblankEdge_ne _ _ hif, busRead_hblank, setStatPhase, busRead_busPoke_same, stat_setPhase]
  split
  · rfl
  · rw [busRead_lineStart _ s hif, if_neg (by decide)]

/-- A PPU step advances LY exactly when the line changed (R1342). -/
theorem busRead_ppuStep_LY (cum : Nat) (s : State) :
    (ppuStep cum s).busRead Params.addrLY =
      if lineOf cum = s.ppu.line then s.busRead Params.addrLY
      else BitVec.ofNat 8 (((s.busRead Params.addrLY).toNat + 1) % 154) := by
  have hif : Params.addrLY ≠ Params.addrIF := by decide
  have hstat : Params.addrLY ≠ Params.addrSTAT := by decide
  simp only [ppuStep, busRead_vblankEdge_ne _ _ hif, busRead_hblank, setStatPhase, busRead_busPoke_ne _ _ hstat]
  split
  · rfl
  · exact busRead_lineStart _ s hif

/-- Settles O54, from the line, STAT and LY after a PPU step. -/
theorem ppuLineAndPhase : Obligations.PpuLineAndPhase := by
  unfold Obligations.PpuLineAndPhase
  rintro cum ln pos s t rfl rfl rfl
  refine ⟨ppuStep_line cum s, busRead_ppuStep_STAT cum s, ?_⟩
  have hmod (n : Nat) : (BitVec.ofNat 8 (n % 154)).toNat = n % 154 := by
    rw [BitVec.toNat_ofNat]
    omega
  have hly := congrArg BitVec.toNat (busRead_ppuStep_LY cum s)
  rwa [apply_ite BitVec.toNat, hmod] at hly

end Sys2Proof.Machine
end

section
/-! SUPPORT. The family 30_encoding.md, decoding: what the bytes after an opcode stand for (R302, R304, R305), the table entry of an
instruction against its bytes and the bytes of a cell against its instruction, and O1, O2, O3, O5 and O6, assembled from them. -/

namespace Sys2Proof

open Sys2Proof.Machine

/-! ## The bytes after an opcode -/

/-- The bytes after the opcode of an entry with this operand, and the instruction they make (R302, R304). STOP's second byte is any
byte (R1203). -/
inductive OperandBytes : Operand → List Byte → Instr → Prop where
  | none (i : Instr) : OperandBytes (.none i) [] i
  | skip (i : Instr) (any : Byte) : OperandBytes (.skip i) [any] i
  | byte (f : Byte → Instr) (n : Byte) : OperandBytes (.byte f) [n] (f n)
  | word (f : Word → Instr) (nn : Word) : OperandBytes (.word f) [loByte nn, hiByte nn] (f nn)

/-- The decoder takes an operand exactly from its bytes, and leaves what follows them. -/
theorem takeOperand_eq_ok_iff {o : Operand} {bytes rest : List Byte} {i : Instr} :
    takeOperand o bytes = .ok (i, rest) ↔ ∃ ob, OperandBytes o ob i ∧ bytes = ob ++ rest := by
  constructor
  · intro h
    unfold takeOperand at h
    split at h <;> cases h
    · exact ⟨[], .none _, rfl⟩
    · exact ⟨[_], .skip _ _, rfl⟩
    · exact ⟨[_], .byte _ _, rfl⟩
    · next f lo hi =>
      refine ⟨[lo, hi], ?_, rfl⟩
      simpa using OperandBytes.word f (wordOf hi lo)
  · rintro ⟨ob, hob, rfl⟩
    cases hob with
    | none => rfl
    | skip => rfl
    | byte => rfl
    | word f nn => simp [takeOperand]

/-- Row by row: the bytes of a well-formed instruction are its opcode bytes and those of its entry's operand. -/
theorem tableEntry_operandBytes {i : Instr} (h : i.wellFormed = true) :
    ∃ e ob, tableEntry i = some e ∧ OperandBytes e.operand ob i ∧ encode i = opcodeBytes i ++ ob := by
  cases i <;> first
    | exact ⟨_, _, rfl, by constructor, rfl⟩
    | cases h


/-! ## The decoder, by the cell of the first byte -/

theorem decode_prefixed (b : Byte) (tail : List Byte) :
    decode (0xCB :: b :: tail) = takeOperand (cbEntry b).operand tail := rfl

theorem decode_entry {b : Byte} {e : Entry} (hcb : b ≠ 0xCB) (he : opCell b = .entry e) (tail : List Byte) :
    decode (b :: tail) = takeOperand e.operand tail := by
  simp only [decode, if_neg hcb, he]

theorem decode_undefined {b : Byte} {i : Instr} (hcb : b ≠ 0xCB) (hi : opCell b = .undefined i) (tail : List Byte) :
    decode (b :: tail) = .ok (i, tail) := by
  simp only [decode, if_neg hcb, hi]

/-- What follows the opcode is taken as the operand of its entry (R301, R304). -/
theorem decode_opcodeBytes_append {i : Instr} {e : Entry} (he : tableEntry i = some e) (tail : List Byte) :
    decode (opcodeBytes i ++ tail) = takeOperand e.operand tail := by
  unfold tableEntry at he
  unfold opcodeBytes
  cases hb : encode i with
  | nil => rw [hb] at he; cases he
  | cons b0 bytes =>
    rw [hb] at he
    simp only at he ⊢
    by_cases hcb : b0 = 0xCB
    · subst hcb
      cases bytes with
      | nil => cases he
      | cons b1 bytes => cases he; rfl
    · rw [if_neg hcb] at he ⊢
      split at he <;> cases he
      next hcell => exact decode_entry hcb hcell tail

/-- Settles O1: the entry of the opcode takes the operand's bytes and leaves the rest. -/
theorem decodeOfEncode : Obligations.DecodeOfEncode := by
  unfold Obligations.DecodeOfEncode
  intro i rest hwf
  obtain ⟨e, ob, he, hob, hbytes⟩ := tableEntry_operandBytes hwf
  rw [hbytes, List.append_assoc, decode_opcodeBytes_append he]
  exact takeOperand_eq_ok_iff.mpr ⟨ob, hob, rfl⟩

/-! ## The instruction of a cell against its bytes -/

/-- The instructions an operand can make are encoded as the opcode and the operand's bytes; only STOP skips one (R1203). -/
def Operand.EncodedFrom (opcode : List Byte) : Operand → Prop
  | .none i => encode i = opcode
  | .skip i => i = .stop ∧ opcode = [0x10]
  | .byte f => ∀ n, encode (f n) = opcode ++ [n]
  | .word f => ∀ nn, encode (f nn) = opcode ++ [loByte nn, hiByte nn]

/-- The instruction of a cell is encoded from the cell's byte on. -/
def Cell.EncodedFrom (b : Byte) : Cell → Prop
  | .entry e => e.operand.EncodedFrom [b]
  | .undefined i => encode i = [b]
  | .escape => b = 0xCB

theorem byte_cases {p : Byte → Prop} (h : ∀ n, n < 256 → p (BitVec.ofNat 8 n)) (b : Byte) : p b := by
  have := h b.toNat b.isLt
  rwa [BitVec.ofNat_toNat, BitVec.setWidth_eq] at this

theorem opCell_encodedFrom : ∀ b : Byte, (opCell b).EncodedFrom b := by
  refine byte_cases fun n hn => ?_
  interval_cases n
  all_goals first
    | exact rfl
    | exact fun _ => rfl
    | exact ⟨rfl, rfl⟩
theorem cbEntry_encodedFrom : ∀ b : Byte, (cbEntry b).operand.EncodedFrom [0xCB, b] := by
  refine byte_cases fun n hn => ?_
  interval_cases n
  all_goals exact rfl

/-- What the bytes after an opcode make is encoded as the opcode and these bytes, but for STOP's second byte. -/
theorem Operand.EncodedFrom.append_eq {o : Operand} {opcode ob : List Byte} {i : Instr} (h : o.EncodedFrom opcode)
    (hob : OperandBytes o ob i) : opcode ++ ob = encode i ∨ i = .stop ∧ ∃ any, opcode ++ ob = [0x10, any] := by
  cases hob with
  | none => exact .inl ((List.append_nil _).trans h.symm)
  | skip _ any =>
    obtain ⟨rfl, rfl⟩ := h
    exact .inr ⟨rfl, any, rfl⟩
  | byte f n => exact .inl (h n).symm
  | word f nn => exact .inl (h nn).symm

/-- Bytes that decode are the encoding of the instruction read and the rest, but for STOP's second byte (R305, R306, R1203). -/
theorem eq_encode_append_of_decode {bytes rest : List Byte} {i : Instr} (h : decode bytes = .ok (i, rest)) :
    bytes = encode i ++ rest ∨ i = .stop ∧ ∃ any, bytes = [0x10, any] ++ rest := by
  have hoperand {o : Operand} {opcode tail : List Byte} (ho : o.EncodedFrom opcode)
      (ht : takeOperand o tail = .ok (i, rest)) :
      opcode ++ tail = encode i ++ rest ∨ i = .stop ∧ ∃ any, opcode ++ tail = [0x10, any] ++ rest := by
    obtain ⟨ob, hob, rfl⟩ := takeOperand_eq_ok_iff.mp ht
    rw [← List.append_assoc]
    exact (ho.append_eq hob).imp (congrArg (· ++ rest)) fun ⟨hi, any, heq⟩ => ⟨hi, any, congrArg (· ++ rest) heq⟩
  match bytes with
  | [] => cases h
  | b :: tail =>
    have hcell := opCell_encodedFrom b
    by_cases hcb : b = 0xCB
    · subst hcb
      cases tail with
      | nil => cases h
      | cons b1 tail => exact hoperand (cbEntry_encodedFrom b1) h
    · cases hb : opCell b with
      | entry e =>
        rw [hb] at hcell
        exact hoperand hcell (decode_entry hcb hb tail ▸ h)
      | undefined j =>
        rw [hb] at hcell
        rw [decode_undefined hcb hb] at h
        cases h
        exact .inl (congrArg (· ++ rest) (Eq.symm hcell))
      | escape =>
        rw [hb] at hcell
        exact absurd hcell hcb

/-- Settles O2, from what the bytes of a decoded instruction are; STOP is encoded with the second byte 0x00. -/
theorem encodeOfDecode : Obligations.EncodeOfDecode := by
  unfold Obligations.EncodeOfDecode
  intro bytes rest i h
  refine ⟨fun hi => ?_, fun hi => ?_⟩
  · exact (eq_encode_append_of_decode h).resolve_right fun hstop => hi hstop.1
  · subst hi
    exact (eq_encode_append_of_decode h).elim (fun heq => ⟨0x00, heq⟩) And.right

/-- Settles O5: the encoder follows the bit pattern of each rule. -/
theorem encodingFollowsRulePatterns : Obligations.EncodingFollowsRulePatterns :=
  encode_form

/-- Settles O3, word by word. -/
theorem sampleWordsDecode : Obligations.SampleWordsDecode :=
  ⟨rfl, rfl, rfl, rfl, rfl, rfl, rfl, rfl⟩

/-! ## The eleven bytes with no table entry -/

/-- The bytes of R307. -/
def undefinedBytes : List Byte := [0xD3, 0xDB, 0xDD, 0xE3, 0xE4, 0xEB, 0xEC, 0xED, 0xF4, 0xFC, 0xFD]

/-- The cell of such a byte is an ill-formed row, not the escape to the second map. -/
theorem opCell_of_mem_undefinedBytes :
    ∀ b ∈ undefinedBytes, b ≠ 0xCB ∧ ∃ i, opCell b = .undefined i ∧ i.wellFormed = false := by
  simp only [undefinedBytes, List.mem_cons, List.not_mem_nil, or_false]
  rintro b (rfl | rfl | rfl | rfl | rfl | rfl | rfl | rfl | rfl | rfl | rfl) <;> exact ⟨by decide, _, rfl, rfl⟩

/-- An ill-formed row is one of these bytes, and its form is that of the byte. -/
theorem encode_of_not_wellFormed {i : Instr} (h : i.wellFormed = false) :
    ∃ b ∈ undefinedBytes, encode i = [b] ∧ formOf i = .undefined b := by
  cases i <;> first
    | exact ⟨_, by decide, rfl, rfl⟩
    | cases h

/-- The lookup of a byte with no table entry faults (R404). -/
theorem fetchEntry_undefined {s : State} {p : Word} {b : Byte} (hb : b ∈ undefinedBytes) (hread : s.memRead p = .ok b) :
    fetchEntry s p = .error (.undefinedOpcode b p) := by
  obtain ⟨hcb, i, hi, -⟩ := opCell_of_mem_undefinedBytes b hb
  simp only [fetchEntry, hread, if_neg hcb, hi]

/-- A running machine stops on the fault of the lookup (R403, R404). -/
theorem step_fetchEntry_error {s : State} {f : FaultRecord} (hf : s.fault = none) (hh : s.halted = false)
    (h : fetchEntry s s.pc = .error f) : step s = raise f s := by
  simp only [step_running hf hh, cpuRun, h, andThen_raise]

/-- Settles O6: the rows of the eleven bytes, the fault of their lookup, and the meaning of their form. -/
theorem undefinedBytesFault : Obligations.UndefinedBytesFault := by
  unfold Obligations.UndefinedBytesFault
  refine ⟨fun b => ⟨?_, fun hb => ?_⟩, fun b s hb hf hh hread => ?_, fun i s hi => ?_⟩
  · rintro ⟨i, hi, hdecode⟩
    obtain ⟨b', hb', hbytes, -⟩ := encode_of_not_wellFormed hi
    have heq : [b] = encode i ++ [] := (encodeOfDecode [b] [] i (hdecode [])).1 (by rintro rfl; cases hi)
    rw [hbytes] at heq
    exact List.head_eq_of_cons_eq heq ▸ hb'
  · obtain ⟨hcb, i, hcell, hi⟩ := opCell_of_mem_undefinedBytes b hb
    exact ⟨i, hi, decode_undefined hcb hcell⟩
  · exact step_fetchEntry_error hf hh (fetchEntry_undefined hb hread)
  · obtain ⟨b, -, hbytes, hform⟩ := encode_of_not_wellFormed hi
    refine ⟨b, hbytes, ?_⟩
    rw [exec_form, hform]
    rfl

end Sys2Proof
end

section
/-! SUPPORT. The family 40_execution_loop.md, the CPU step: fetching the operand of an instruction, what the CPU step of a running
machine does with what it fetched (R403 to R408), and O7, O8 and O9, assembled from them. -/

namespace Sys2Proof.Machine

open Sys2Proof

/-! ## Reading an instruction's bytes -/

/-- Bytes are read in order, the later ones from where the earlier ones end. -/
theorem State.fetches_append {s : State} {p : Word} {xs ys : List Byte} :
    s.fetches p (xs ++ ys) ↔ s.fetches p xs ∧ s.fetches (p + BitVec.ofNat 16 xs.length) ys := by
  induction xs generalizing p with
  | nil => simp [State.fetches]
  | cons x xs ih =>
    have hp : p + 1 + BitVec.ofNat 16 xs.length = p + BitVec.ofNat 16 (xs.length + 1) := by
      rw [BitVec.add_assoc, BitVec.add_comm 1, ← BitVec.ofNat_add_ofNat]
      rfl
    simp only [List.cons_append, State.fetches, ih, List.length_cons, hp, and_assoc]

/-- An operand follows a one-byte opcode, and a two-byte opcode stands alone (R302). -/
theorem opcodeBytes_length_eq_one_or {i : Instr} {ob : List Byte} (h : encode i = opcodeBytes i ++ ob) :
    (opcodeBytes i).length = 1 ∨ ob = [] := by
  obtain ⟨b, m, hb, hlen⟩ := encode_eq_cons i
  simp only [opcodeBytes, hb] at h ⊢
  split at h
  · next hcb =>
    subst hcb
    obtain ⟨b1, rfl⟩ := List.length_eq_one_iff.mp (Nat.succ.inj hlen).symm
    exact .inr (List.append_right_eq_self.mp h.symm)
  · next hcb => exact .inl (by rw [if_neg hcb]; rfl)

/-- The operand is fetched from the bytes after a one-byte opcode (R405). -/
theorem fetchOperand_of_operandBytes {s : State} {p : Word} {o : Operand} {ob : List Byte} {i : Instr}
    (hob : OperandBytes o ob i) (h : s.fetches (p + 1) ob) : fetchOperand s p o = .ok i := by
  cases hob with
  | none => rfl
  | skip => rfl
  | byte f n =>
    obtain ⟨hn, -⟩ := h
    simp only [fetchOperand, hn]
  | word f nn =>
    obtain ⟨hlo, hhi, -⟩ := h
    rw [BitVec.add_assoc] at hhi
    have hhi : s.memRead (p + 2) = .ok (hiByte nn) := hhi
    simp only [fetchOperand, hlo, hhi, wordOf_hiByte_loByte]

/-- A well-formed instruction whose bytes can be read is looked up and fetched (R403, R404, R405). -/
theorem fetch_encode {s : State} {p : Word} {i : Instr} (hwf : i.wellFormed = true) (h : s.fetches p (encode i))
    (hp : p.toNat + (encode i).length ≤ 0x10000) :
    ∃ e, fetchEntry s p = .ok ⟨opcodeOf (encode i), e⟩ ∧ e.length = (encode i).length ∧
      fetchOperand s p e.operand = .ok i := by
  obtain ⟨e, ob, he, hob, hbytes⟩ := tableEntry_operandBytes hwf
  obtain ⟨e', he', hlen, -⟩ := tableEntry_spec i hwf
  obtain rfl : e = e' := Option.some.inj (he.symm.trans he')
  have hparts := h
  rw [hbytes, State.fetches_append] at hparts
  obtain ⟨hopcode, hoperand⟩ := hparts
  have hle : (opcodeBytes i).length ≤ (encode i).length := by rw [hbytes, List.length_append]; omega
  refine ⟨e, fetchEntry_of_fetches he hopcode (by omega), hlen, ?_⟩
  refine fetchOperand_of_operandBytes hob ?_
  rcases opcodeBytes_length_eq_one_or hbytes with hone | rfl
  · rwa [hone] at hoperand
  · trivial

/-- An unreadable byte of an operand that is read ends the fetch (R405). -/
theorem fetchOperand_error {s : State} {p : Word} {o : Operand} {f : FaultRecord} (hread : ¬∃ j, o = .skip j)
    (hsome : 1 ≤ operandBytes o) (h : s.memRead (p + 1) = .error f) : fetchOperand s p o = .error f := by
  cases o with
  | none j => exact absurd hsome (Nat.not_succ_le_zero 0)
  | skip j => exact absurd ⟨j, rfl⟩ hread
  | byte g => simp only [fetchOperand, h]
  | word g => simp only [fetchOperand, h]

/-- The high byte of an immediate word is read after its low byte (R405). -/
theorem fetchOperand_error_high {s : State} {p : Word} {o : Operand} {lo : Byte} {f : FaultRecord} (htwo : operandBytes o = 2)
    (hlo : s.memRead (p + 1) = .ok lo) (h : s.memRead (p + 2) = .error f) : fetchOperand s p o = .error f := by
  cases o with
  | none j => cases htwo
  | skip j => cases htwo
  | byte g => cases htwo
  | word g => simp only [fetchOperand, hlo, h]

/-! ## The lookup of an opcode -/

section
variable {s : State} {p : Word} {f : FaultRecord}

theorem fetchEntry_error (h : s.memRead p = .error f) : fetchEntry s p = .error f := by
  simp only [fetchEntry, h]

/-- A byte 0xCB at 0xFFFF has no second byte (R403). -/
theorem fetchEntry_prefix_last (h : s.memRead p = .ok 0xCB) (hp : p = 0xFFFF) : fetchEntry s p = .error (.pcRange 0x10000) := by
  subst hp
  simp only [fetchEntry, h]
  rfl

theorem fetchEntry_prefix_error (h : s.memRead p = .ok 0xCB) (hp : p ≠ 0xFFFF) (hsecond : s.memRead (p + 1) = .error f) :
    fetchEntry s p = .error f := by
  have hne : p.toNat ≠ 0xFFFF := BitVec.toNat_ne.mp hp
  have hlt := p.isLt
  simp only [fetchEntry, h, hsecond, if_true]
  rw [if_neg (by omega)]

end

/-- The opcode of bytes that do not start with 0xCB is the first byte (R301). -/
theorem opcodeOf_cons {b : Byte} (h : b ≠ 0xCB) (tail : List Byte) : opcodeOf (b :: tail) = wordOf 0 b := by
  cases tail <;> simp only [opcodeOf, if_neg h]

/-- HALT alone has the opcode 0x76. -/
theorem eq_halt_of_opcodeOf {i : Instr} (hwf : i.wellFormed = true) (h : opcodeOf (encode i) = 0x76) : i = .halt := by
  obtain ⟨b, m, hb, -⟩ := encode_eq_cons i
  rw [hb] at h
  by_cases hcb : b = 0xCB
  · subst hcb
    cases m with
    | nil => exact absurd h (by decide)
    | cons b1 m => exact absurd (congrArg hiByte h) (by rw [opcodeOf, if_pos rfl, hiByte_wordOf]; decide)
  · rw [opcodeOf_cons hcb] at h
    have hbyte := congrArg loByte h
    rw [loByte_wordOf] at hbyte
    have hdecode := decodeOfEncode i [] hwf
    rw [List.append_nil, hb, hbyte] at hdecode
    cases hdecode
    rfl

/-! ## The CPU step of a running machine, by what was fetched -/

section
variable {s : State} {o : Fetched} (h : fetchEntry s s.pc = .ok o)
include h

/-- PCnext is checked before the handler and the operand (R406). -/
theorem cpuRun_pcRange (hpc : 0xFFFF < s.pc.toNat + o.entry.length) :
    cpuRun s = raise (.pcRange (s.pc.toNat + o.entry.length)) s := by
  simp only [cpuRun, h, if_pos hpc]

/-- An opcode without a handler (R407). -/
theorem cpuRun_unhandled (hpc : s.pc.toNat + o.entry.length ≤ 0xFFFF) (hne : o.opcode ≠ 0x76) (hmem : o.opcode ∈ s.cart.unhandled) :
    cpuRun s = unimplemented o.entry.length o.entry.cycles s := by
  simp only [cpuRun, h, if_neg (Nat.not_lt.mpr hpc), if_pos (And.intro hne hmem)]

/-- An opcode with a handler, HALT with or without one, runs the instruction whose operand can be fetched (R405, R408, R1202). -/
theorem cpuRun_handled {i : Instr} (hpc : s.pc.toNat + o.entry.length ≤ 0xFFFF)
    (hhandled : o.opcode = 0x76 ∨ o.opcode ∉ s.cart.unhandled) (hi : fetchOperand s s.pc o.entry.operand = .ok i) :
    cpuRun s = exec i s := by
  have hpath : ¬(o.opcode ≠ 0x76 ∧ o.opcode ∈ s.cart.unhandled) := fun ⟨hne, hmem⟩ =>
    hhandled.elim hne fun hnot => hnot hmem
  simp only [cpuRun, h, if_neg (Nat.not_lt.mpr hpc), if_neg hpath, hi]

/-- An operand byte that cannot be read (R405). -/
theorem cpuRun_operand_error {f : FaultRecord} (hpc : s.pc.toNat + o.entry.length ≤ 0xFFFF)
    (hhandled : o.opcode ∉ s.cart.unhandled) (hf : fetchOperand s s.pc o.entry.operand = .error f) :
    cpuRun s = raise f s := by
  have hpath : ¬(o.opcode ≠ 0x76 ∧ o.opcode ∈ s.cart.unhandled) := fun ⟨_, hmem⟩ => hhandled hmem
  simp only [cpuRun, h, if_neg (Nat.not_lt.mpr hpc), if_neg hpath, hf]

end

/-- STOP runs its rule with or without a handler, since its rule is the unimplemented path (R1203, R407). -/
theorem cpuRun_stop {s : State} (h : s.memRead s.pc = .ok 0x10) (hpc : s.pc.toNat + 2 ≤ 0xFFFF) :
    cpuRun s = exec .stop s := by
  have hfetch := fetchEntry_of_fetches (i := .stop) (e := ⟨2, 4, none, .skip .stop⟩) rfl ⟨h, trivial⟩
    (show s.pc.toNat + 1 ≤ 0x10000 by omega)
  by_cases hmem : opcodeOf (encode .stop) ∈ s.cart.unhandled
  · rw [exec_form]
    exact (cpuRun_unhandled hfetch hpc (by decide) hmem).trans rfl
  · exact cpuRun_handled hfetch hpc (.inr hmem) rfl

/-- HALT runs its rule with or without a handler; past the address space both fault alike (R406, R1202). -/
theorem cpuRun_halt {s : State} (h : s.memRead s.pc = .ok 0x76) : cpuRun s = exec .halt s := by
  have hfetch := fetchEntry_of_fetches (i := .halt) (e := ⟨1, 4, none, .none .halt⟩) rfl ⟨h, trivial⟩
    (show s.pc.toNat + 1 ≤ 0x10000 from s.pc.isLt)
  by_cases hpc : s.pc.toNat + 1 ≤ 0xFFFF
  · exact cpuRun_handled hfetch hpc (.inl rfl) rfl
  · refine (cpuRun_pcRange hfetch (Nat.lt_of_not_le hpc)).trans ?_
    rw [exec_form]
    simp only [formOf, runForm, halt]
    rw [assignPC_fault (by omega), andThen_raise]
    rfl

/-- The rest of a system step, as the model runs it and as the statements write it (R400). -/
theorem endOfStep_eq (s : State) : endOfStep s = afterCpuStep s := rfl

/-- A step of a halted machine is the idle cost and then the rest of the system step (R402). -/
theorem step_halted {s : State} (hf : s.fault = none) (hh : s.halted = true) :
    step s = afterCpuStep { s with stepCycles := 4 } := by
  have hcpu : cpuStep s = .next { s with stepCycles := 4 } := if_pos hh
  simp only [step, systemStep, hf, hcpu, andThen_next, endOfStep_eq]

/-! ## The statements -/

/-- Settles O7: the instruction fetched is the one decoded, and each fault is that of the part of the fetch it names. -/
theorem stepRunsDecodedInstruction : Obligations.StepRunsDecodedInstruction := by
  unfold Obligations.StepRunsDecodedInstruction
  refine ⟨fun s i bytes hf hh hwf hdecode hfetches hpc hhandled => ?_, fun s hf hh hread hpc => ?_,
    fun s f hf hh hread => ⟨⟨_, memRead_error hread⟩, step_fetchEntry_error hf hh (fetchEntry_error hread)⟩,
    fun s hf hh hread hpc => step_fetchEntry_error hf hh (fetchEntry_prefix_last hread hpc),
    fun s f hf hh hread hpc hsecond =>
      ⟨⟨_, memRead_error hsecond⟩, step_fetchEntry_error hf hh (fetchEntry_prefix_error hread hpc hsecond)⟩,
    fun s i next hf hh hwf hfetches hpc hnext hpast => ?_,
    fun s i f hf hh hwf hfetches hpc hhandled hstop hone htwo => ?_⟩
  · rw [step_running hf hh]
    rcases eq_encode_append_of_decode hdecode with rfl | ⟨rfl, any, rfl⟩
    · rw [List.append_nil] at hfetches hpc hhandled
      obtain ⟨e, he, hlen, hoperand⟩ := fetch_encode hwf hfetches (by omega)
      rw [cpuRun_handled he (hlen ▸ hpc) (.inr hhandled) hoperand]
    · rw [cpuRun_stop hfetches.1 hpc]
  · rw [step_running hf hh, cpuRun_stop hread hpc]
  · obtain ⟨e, he, hlen, -⟩ := tableEntry_spec i hwf
    have hfetch := fetchEntry_of_fetches he hfetches hpc
    rw [← hlen] at hnext
    subst hnext
    rw [step_running hf hh, cpuRun_pcRange hfetch (Int.ofNat_lt.mp hpast)]
    rfl
  · obtain ⟨e, he, hlen, hparts, hskip⟩ := tableEntry_spec i hwf
    have hfetch := fetchEntry_of_fetches he hfetches (by omega)
    have hread : ¬∃ j, e.operand = .skip j := fun hj => hstop (hskip hj)
    have hrun := cpuRun_operand_error (f := f) hfetch (hlen ▸ hpc) hhandled
    have hone : 1 ≤ operandBytes e.operand := by omega
    refine ⟨fun hlo => ⟨⟨_, memRead_error hlo⟩, ?_⟩, fun lo hthree hlo hhi => ⟨⟨_, memRead_error hhi⟩, ?_⟩⟩
    · rw [step_running hf hh, hrun (fetchOperand_error hread hone hlo)]
      rfl
    · have htwo : operandBytes e.operand = 2 := by omega
      rw [step_running hf hh, hrun (fetchOperand_error_high htwo hlo hhi)]
      rfl

/-- Settles O8: the halted CPU step is the idle cost, and a faulted machine raises its record again. -/
theorem haltedAndFaultedSteps : Obligations.HaltedAndFaultedSteps := by
  unfold Obligations.HaltedAndFaultedSteps
  refine ⟨fun s hf hh => ?_, fun s f hf => ?_⟩
  · exact step_halted hf hh
  · simp only [step, systemStep, hf, raise]
    rw [← hf]

/-- The table entry of an instruction, as the cell of its first byte or the second map's entry of its second (R305, R306). -/
theorem tableEntry_of_cell {i : Instr} {e : Entry}
    (h : (encode i).head? ≠ some 0xCB ∧ opCell ((encode i).headD 0) = .entry e ∨
      (encode i).head? = some 0xCB ∧ cbEntry ((encode i).getD 1 0) = e) : tableEntry i = some e := by
  obtain ⟨b, m, hb, hlen⟩ := encode_eq_cons i
  simp only [tableEntry, hb, List.head?_cons, List.headD_cons, ne_eq, Option.some.injEq] at h ⊢
  rcases h with ⟨hcb, he⟩ | ⟨rfl, he⟩
  · simp only [if_neg hcb, he]
  · obtain ⟨b1, rfl⟩ := List.length_eq_one_iff.mp (Nat.succ.inj hlen).symm
    exact congrArg some he

/-- Settles O9: the lookup gives the entry, and the handler test sends every opcode but HALT's to the unimplemented path. -/
theorem unimplementedPath : Obligations.UnimplementedPath := by
  unfold Obligations.UnimplementedPath
  refine ⟨fun s i e hf hh hwf hhalt hfetches hcell hmem hpc => ?_, fun s hf hh hread => ?_⟩
  · have he := tableEntry_of_cell hcell
    obtain ⟨e', he', hlen, hparts, -⟩ := tableEntry_spec i hwf
    obtain rfl : e = e' := Option.some.inj (he.symm.trans he')
    have hfetch := fetchEntry_of_fetches he hfetches (by omega)
    rw [step_running hf hh, cpuRun_unhandled hfetch hpc (fun h => hhalt (eq_halt_of_opcodeOf hwf h)) hmem,
      unimplemented_next hpc]
    rfl
  · rw [step_running hf hh, cpuRun_halt hread]

end Sys2Proof.Machine
end

section
/-! SUPPORT. The one frame of every instruction (40_execution_loop.md R406, R409): the advance of PC, the rule where its condition
holds, the cycles of the table entry; and O15, O39 and O40, assembled from it. -/

namespace Sys2Proof.Machine

open Sys2Proof

/-! ## The parts of the frame -/

/-- HALT after the advance of PC (R1202). -/
def haltRule (s : State) : Result :=
  if s.ime then .next { s with halted := true }
  else
    match fetchEntry s s.pc with
    | .error f => raise f s
    | .ok next => assignPC (s.pc.toNat + next.entry.length) s

/-- The rule of a form, run after the advance of PC. -/
def Form.rule : Form → State → Result
  | .ldRegReg dst src => Machine.ldRegReg dst src
  | .ldRegImm dst n => Machine.ldRegImm dst n
  | .ldRegMem dst => Machine.ldRegMem dst
  | .ldMemReg src => Machine.ldMemReg src
  | .ldMemImm n => Machine.ldMemImm n
  | .ldAFrom ea => Machine.ldAFrom ea
  | .ldATo ea => Machine.ldATo ea
  | .ldAFromHL dir => Machine.ldAFromHL dir
  | .ldAToHL dir => Machine.ldAToHL dir
  | .ldPairImm p nn => Machine.ldPairImm p nn
  | .ldMemSP nn => Machine.ldMemSP nn
  | .ldSPHL => Machine.ldSPHL
  | .push q => pushPair q
  | .pop q => popPair q
  | .alu op src => aluA op src
  | .inc8 t => incByte t
  | .dec8 t => decByte t
  | .daa => daaA
  | .cpl => cplA
  | .scf => Machine.scf
  | .ccf => Machine.ccf
  | .addHL p => Machine.addHL p
  | .incPair p => Machine.incPair p
  | .decPair p => Machine.decPair p
  | .addSP e => Machine.addSP e
  | .ldHLSP e => Machine.ldHLSP e
  | .rotA op => rotateA op
  | .rot op t => rotate op t
  | .bit b t => bitTarget b t
  | .res b t => resTarget b t
  | .set b t => setTarget b t
  | .jp nn => jumpTo nn
  | .jpCond _ nn => jumpTo nn
  | .jpHL => jumpHL
  | .jr e => jumpBy e
  | .jrCond _ e => jumpBy e
  | .call nn => callTo nn
  | .callCond _ nn => callTo nn
  | .ret => popPC
  | .retCond _ => popPC
  | .reti => returnFromInterrupt
  | .rst t => restart t
  | .nop => .next
  | .halt => haltRule
  | .stop => fun s => .next { s with unimplementedSeen := true }
  | .di => setIME false
  | .ei => setIME true
  | .undefined b => undefinedOpcode b

/-- What a form costs when its rule runs. -/
def Form.cycles : Form → Nat
  | .ldRegMem _ | .ldMemReg _ | .ldRegImm _ _ | .ldAFromHL _ | .ldAToHL _ | .ldSPHL | .addHL _ | .incPair _ | .decPair _ => 8
  | .ldMemImm _ | .ldPairImm _ _ | .pop _ | .ldHLSP _ | .jr _ | .jrCond _ _ => 12
  | .ldAFrom ea | .ldATo ea => ea.cycles
  | .push _ | .addSP _ | .jp _ | .jpCond _ _ | .ret | .reti | .rst _ => 16
  | .ldMemSP _ | .retCond _ => 20
  | .call _ | .callCond _ _ => 24
  | .alu _ src => src.cycles
  | .inc8 t | .dec8 t => if t = .memHL then 12 else 4
  | .bit _ t => if t = .memHL then 12 else 8
  | .rot _ t | .res _ t | .set _ t => if t = .memHL then 16 else 8
  | .ldRegReg _ _ | .daa | .cpl | .scf | .ccf | .rotA _ | .jpHL | .nop | .halt | .stop | .di | .ei | .undefined _ => 4

/-- The condition of a conditional form, and what it costs where the condition fails (R1100). -/
def Form.conditional : Form → Option (Cond × Nat)
  | .jpCond cc _ | .callCond cc _ => some (cc, 12)
  | .jrCond cc _ | .retCond cc => some (cc, 8)
  | _ => none

/-- Whether the rule of a form runs. -/
def Form.taken (f : Form) (s : State) : Bool :=
  match f.conditional with
  | some (cc, _) => condHolds cc s
  | none => true

/-- What a form costs where its condition fails. -/
def Form.notTakenCycles (f : Form) : Nat := (f.conditional.map Prod.snd).getD 0

/-- HALT's rule inside the frame; the idle cost is that of its entry (R402, R1202). -/
theorem halt_eq_execute (s : State) : halt s = execute 1 4 haltRule s := by
  refine congrArg (andThen _) (funext fun s => ?_)
  cases hime : s.ime with
  | true => simp only [haltRule, hime, if_true, andThen_next]; rfl
  | false =>
    cases hfetch : fetchEntry s s.pc with
    | error f => simp [haltRule, hime, hfetch]
    | ok next => simp [haltRule, hime, hfetch]; rfl

/-- Every form with a table entry runs its rule inside the one frame, with the length of its encoding. -/
theorem runForm_eq_executeIf {f : Form} (h : ∀ b, f ≠ .undefined b) (s : State) :
    runForm f s = executeIf f.bytes.length f.cycles f.notTakenCycles f.taken f.rule s := by
  cases f with
  | undefined b => exact absurd rfl (h b)
  | halt => exact halt_eq_execute s
  | ldAFrom ea => cases ea <;> rfl
  | ldATo ea => cases ea <;> rfl
  | ldAFromHL dir => cases dir <;> rfl
  | ldAToHL dir => cases dir <;> rfl
  | alu op src => cases src <;> rfl
  | inc8 t => cases t <;> rfl
  | dec8 t => cases t <;> rfl
  | rot op t => cases t <;> rfl
  | bit b t => cases t <;> rfl
  | res b t => cases t <;> rfl
  | set b t => cases t <;> rfl
  | _ => rfl

/-- Only an ill-formed instruction has no table entry. -/
theorem formOf_ne_undefined {i : Instr} (h : i.wellFormed = true) (b : Byte) : formOf i ≠ .undefined b := by
  cases i <;> first
    | exact Form.noConfusion
    | cases h

/-- Every well-formed instruction inside the one frame. -/
theorem exec_eq_executeIf {i : Instr} (h : i.wellFormed = true) (s : State) :
    exec i s =
      executeIf (encode i).length (formOf i).cycles (formOf i).notTakenCycles (formOf i).taken (formOf i).rule s := by
  rw [exec_form, runForm_eq_executeIf (formOf_ne_undefined h), encode_form]

/-! ## What the frame can answer -/

/-- The frame answers a next state where PCnext is in range and the rule, if its condition holds, does. -/
theorem executeIf_eq_next {len cost notTaken : Nat} {cond : State → Bool} {rule : State → Result} {s t : State}
    (h : executeIf len cost notTaken cond rule s = .next t) :
    ∃ s', s' = { s with pc := s.pc + BitVec.ofNat 16 len } ∧
      (cond s' = true ∧ (∃ u, rule s' = .next u ∧ t = u.returnCycles cost) ∨
        cond s' = false ∧ t = s'.returnCycles notTaken) := by
  by_cases hpc : s.pc.toNat + len ≤ 0xFFFF
  · refine ⟨_, rfl, ?_⟩
    rw [executeIf, assignPC_advance hpc, andThen_next] at h
    split at h
    · next hcond =>
      obtain ⟨u, hu, ht⟩ := andThen_eq_next.mp h
      cases ht
      exact .inl ⟨hcond, u, hu, rfl⟩
    · next hcond =>
      cases h
      exact .inr ⟨Bool.eq_false_of_not_eq_true hcond, rfl⟩
  · rw [executeIf_fault (Nat.lt_of_not_le hpc)] at h
    cases h

/-- An ill-formed instruction answers no next state (R307). -/
theorem exec_ne_next {i : Instr} (h : i.wellFormed = false) (s t : State) : exec i s ≠ .next t := by
  obtain ⟨b, -, -, hform⟩ := encode_of_not_wellFormed h
  rw [exec_form, hform]
  exact raise_ne_next _ _ _

/-- What an instruction can do: advance PC, then run its form's rule, or nothing more where its condition fails. -/
theorem exec_eq_next {i : Instr} {s t : State} (h : exec i s = .next t) :
    i.wellFormed = true ∧ ∃ s', s' = { s with pc := s.pc + BitVec.ofNat 16 (encode i).length } ∧
      ((formOf i).taken s' = true ∧
          (∃ u, (formOf i).rule s' = .next u ∧ t = u.returnCycles (formOf i).cycles) ∨
        (formOf i).taken s' = false ∧ t = s'.returnCycles (formOf i).notTakenCycles) := by
  cases hwf : i.wellFormed with
  | false => exact absurd h (exec_ne_next hwf s t)
  | true =>
    rw [exec_eq_executeIf hwf] at h
    exact ⟨rfl, executeIf_eq_next h⟩

end Sys2Proof.Machine

namespace Sys2Proof

open Sys2Proof.Machine

/-! ## The cycles of the table -/

/-- No entry costs more than 24 cycles (R410). -/
def Entry.withinBound (e : Entry) : Bool := decide (e.cycles ≤ 24) && decide (e.cyclesNotTaken.getD 0 ≤ 24)

/-- The entry of a cell, if it has one, is within the bound. -/
def Cell.withinBound : Cell → Bool
  | .entry e => e.withinBound
  | .undefined _ => true
  | .escape => true

theorem opCell_withinBound : ∀ b : Byte, (opCell b).withinBound = true := by decide

theorem cbEntry_withinBound : ∀ b : Byte, (cbEntry b).withinBound = true := by decide

/-- No instruction of the second map is conditional (R306). -/
theorem cbEntry_cyclesNotTaken : ∀ b : Byte, (cbEntry b).cyclesNotTaken = none := by decide

theorem withinBound_of_opCell {b : Byte} {e : Entry} (h : opCell b = .entry e) : e.withinBound = true := by
  have hb := opCell_withinBound b
  rwa [h] at hb

/-- A cost that an entry names is at most 24 (R410). -/
theorem le_of_withinBound {e : Entry} {c : Nat} (h : e.withinBound = true) (hc : c = e.cycles ∨ some c = e.cyclesNotTaken) :
    c ≤ 24 := by
  simp only [Entry.withinBound, Bool.and_eq_true, decide_eq_true_eq] at h
  obtain ⟨hcycles, hnot⟩ := h
  rcases hc with rfl | hc
  · exact hcycles
  · rwa [← hc] at hnot

/-! ## The entry of an encoding -/

theorem tableEntry_of_opCell {i : Instr} {b : Byte} {rest : List Byte} {e : Entry} (hb : encode i = b :: rest)
    (he : opCell b = .entry e) : tableEntry i = some e := by
  have hcb : b ≠ 0xCB := by
    rintro rfl
    cases opCell_0xCB.symm.trans he
  simp only [tableEntry, hb, if_neg hcb, he]

theorem tableEntry_of_prefix {i : Instr} {b : Byte} (hb : encode i = [0xCB, b]) : tableEntry i = some (cbEntry b) := by
  simp only [tableEntry, hb, if_true]

/-- The entry of an instruction is one of the two maps'. -/
theorem tableEntry_withinBound {i : Instr} {e : Entry} (h : tableEntry i = some e) : e.withinBound = true := by
  obtain ⟨b, m, hb, hlen⟩ := encode_eq_cons i
  by_cases hcb : b = 0xCB
  · subst hcb
    obtain ⟨b1, rfl⟩ := List.length_eq_one_iff.mp (Nat.succ.inj hlen).symm
    exact Option.some.inj ((tableEntry_of_prefix hb).symm.trans h) ▸ cbEntry_withinBound b1
  · simp only [tableEntry, hb, if_neg hcb] at h
    split at h <;> cases h
    next he => exact withinBound_of_opCell he

/-- What a form costs is what its entry says: `cycles`, and `cyclesNotTaken` for a conditional one (R305, R306, R312). -/
theorem tableEntry_cycles {i : Instr} (h : i.wellFormed = true) :
    ∃ e, tableEntry i = some e ∧ e.cycles = (formOf i).cycles ∧
      e.cyclesNotTaken = (formOf i).conditional.map Prod.snd := by
  cases i <;> first
    | exact ⟨_, rfl, rfl, rfl⟩
    | cases h

end Sys2Proof

namespace Sys2Proof.Machine

open Sys2Proof

/-- Only a conditional form's rule can be left out, and then the form costs what its entry says. -/
theorem Form.notTakenCycles_of_not_taken {f : Form} {s : State} (h : f.taken s = false) :
    some f.notTakenCycles = f.conditional.map Prod.snd := by
  cases hc : f.conditional with
  | none => rw [Form.taken, hc] at h; cases h
  | some p => rw [Form.notTakenCycles, hc]; rfl

/-- A step's cost is one that the instruction's entry names (R409). -/
theorem exec_stepCycles {i : Instr} {s t : State} (h : exec i s = .next t) :
    ∃ e, tableEntry i = some e ∧ (t.stepCycles = e.cycles ∨ some t.stepCycles = e.cyclesNotTaken) := by
  obtain ⟨hwf, s', -, hrun⟩ := exec_eq_next h
  obtain ⟨e, he, hcycles, hnot⟩ := tableEntry_cycles hwf
  refine ⟨e, he, ?_⟩
  rcases hrun with ⟨-, u, -, rfl⟩ | ⟨hfails, rfl⟩
  · exact .inl hcycles.symm
  · exact .inr ((Form.notTakenCycles_of_not_taken hfails).trans hnot.symm)

/-- Settles O40: the cost is one that the entry of the opcode names. -/
theorem cyclesFromTable : Obligations.CyclesFromTable := by
  unfold Obligations.CyclesFromTable
  intro i s t h
  obtain ⟨e, he, hcost⟩ := exec_stepCycles h
  refine ⟨le_of_withinBound (tableEntry_withinBound he) hcost, fun b rest e' hb he' => ?_, fun b hb => ?_⟩
  · obtain rfl : e = e' := Option.some.inj (he.symm.trans (tableEntry_of_opCell hb he'))
    exact hcost
  · obtain rfl : e = cbEntry b := Option.some.inj (he.symm.trans (tableEntry_of_prefix hb))
    rw [cbEntry_cyclesNotTaken] at hcost
    exact hcost.resolve_right (Option.some_ne_none _)

/-! ## The two faults that every form shares -/

/-- Settles O39: the frame's advance comes before the rule. -/
theorem sequentialAdvanceFaults : Obligations.SequentialAdvanceFaults := by
  unfold Obligations.SequentialAdvanceFaults
  intro i s hwf hpc
  rw [exec_eq_executeIf hwf, executeIf_fault hpc]
  rfl

/-- A rule that reads the byte at HL does so before any effect (R500, R702, R906, R1000). -/
theorem Form.rule_of_readsHL_error {f : Form} {s : State} {r : FaultRecord} (hf : f.readsHL = true)
    (h : s.memRead s.regs.hl = .error r) : f.taken s = true ∧ f.rule s = raise r s := by
  cases f with
  | ldRegMem dst => exact ⟨rfl, load_error h⟩
  | ldAFromHL dir => exact ⟨rfl, load_error h⟩
  | alu op src => obtain rfl := eq_of_beq hf; exact ⟨rfl, load_error h⟩
  | inc8 t => obtain rfl := eq_of_beq hf; exact ⟨rfl, load_error h⟩
  | dec8 t => obtain rfl := eq_of_beq hf; exact ⟨rfl, load_error h⟩
  | rot op t => obtain rfl := eq_of_beq hf; exact ⟨rfl, load_error h⟩
  | bit b t => obtain rfl := eq_of_beq hf; exact ⟨rfl, load_error h⟩
  | res b t => obtain rfl := eq_of_beq hf; exact ⟨rfl, load_error h⟩
  | set b t => obtain rfl := eq_of_beq hf; exact ⟨rfl, load_error h⟩
  | _ => cases hf

/-- Settles O15: the rule of such a form raises the read's fault after the advance of PC. -/
theorem hlReadFaults : Obligations.HLReadFaults := by
  unfold Obligations.HLReadFaults
  intro i s r hi hpc hread
  have hform (b : Byte) : formOf i ≠ .undefined b := by
    intro hb
    rw [hb] at hi
    cases hi
  obtain ⟨htaken, hrule⟩ := Form.rule_of_readsHL_error
    (s := { s with pc := s.pc + BitVec.ofNat 16 (encode i).length }) hi ((memRead_setPc s _ _).trans hread)
  rw [exec_form, runForm_eq_executeIf hform, ← encode_form, executeIf, assignPC_advance hpc, andThen_next, if_pos htaken,
    hrule, andThen_raise]

end Sys2Proof.Machine
end

section
/-! SUPPORT. The families 41_load8.md and 42_load16.md: memory accesses and the stack after the advance of PC, and O10 to O14 and O16
to O19, assembled from them. -/

namespace Sys2Proof.Machine

open Sys2Proof

/-! ## An instruction inside its form's frame -/

section
variable {i : Instr} {f : Form} {len cost : Nat} {rule : State → Result} {s : State} (hi : formOf i = f)
  (hf : runForm f = execute len cost rule) (hpc : s.pc.toNat + len ≤ 0xFFFF)
include hi hf hpc

/-- The rule's answer, with the cycle count. -/
theorem exec_of_rule_next {t : State} (h : rule { s with pc := s.pc + BitVec.ofNat 16 len } = .next t) :
    exec i s = .next (t.returnCycles cost) := by
  rw [exec_form, hi, hf, execute_of_rule_next hpc h]

/-- The rule's fault. -/
theorem exec_of_rule_raise {r : FaultRecord} {t : State}
    (h : rule { s with pc := s.pc + BitVec.ofNat 16 len } = raise r t) : exec i s = raise r t := by
  rw [exec_form, hi, hf, execute_of_rule_raise hpc h]

/-- A rule that stores a byte: the store, PC and the cycle count. -/
theorem exec_of_rule_memWrite {addr : Word} {v : Byte}
    (h : rule { s with pc := s.pc + BitVec.ofNat 16 len } =
      .next ({ s with pc := s.pc + BitVec.ofNat 16 len }.memWrite addr v)) :
    exec i s = .next { s.memWrite addr v with pc := s.pc + BitVec.ofNat 16 len, stepCycles := cost } := by
  rw [exec_of_rule_next hi hf hpc h, memWrite_setPc]
  rfl

end

/-! ## Memory accesses after the advance of PC -/

/-- A byte read after the advance is the byte read before it. -/
theorem load_withPC_ok {s : State} {addr pc : Word} {v : Byte} {k : Byte → Result} (h : s.memRead addr = .ok v) :
    load addr { s with pc := pc } k = k v :=
  load_ok ((memRead_setPc s addr pc).trans h)

theorem load_withPC_error {s : State} {addr pc : Word} {f : FaultRecord} {k : Byte → Result} (h : s.memRead addr = .error f) :
    load addr { s with pc := pc } k = raise f { s with pc := pc } :=
  load_error ((memRead_setPc s addr pc).trans h)

/-! ## 8-bit loads and stores -/

/-- Settles O10: a register gets a register, the immediate, or the byte read. -/
theorem registerLoads : Obligations.RegisterLoads := by
  unfold Obligations.RegisterLoads
  intro i s dst
  refine ⟨fun src hi hpc => ?_, fun n hi hpc => ?_, fun v hi hpc hread => ?_⟩
  · exact (exec_of_rule_next hi rfl hpc rfl).trans rfl
  · exact (exec_of_rule_next hi rfl hpc rfl).trans rfl
  · exact (exec_of_rule_next hi rfl hpc (load_withPC_ok hread)).trans rfl

/-- Settles O11: both forms store at HL. -/
theorem storesAtHL : Obligations.StoresAtHL := by
  unfold Obligations.StoresAtHL
  intro i s
  refine ⟨fun src hi hpc => ?_, fun n hi hpc => ?_⟩
  · exact exec_of_rule_memWrite hi rfl hpc rfl
  · exact exec_of_rule_memWrite hi rfl hpc rfl

/-- A high-page address is 0xFF00 plus the byte (R213). -/
theorem wordOf_highPage (n : Byte) : wordOf 0xFF n = 0xFF00 + n.setWidth 16 := by
  apply BitVec.eq_of_toNat_eq
  rw [wordOf_toNat, BitVec.toNat_add, BitVec.toNat_setWidth]
  simp
  omega

/-- Settles O12: the byte at the effective address, or the fault of reading it. -/
theorem loadAFromMemory : Obligations.LoadAFromMemory := by
  unfold Obligations.LoadAFromMemory
  intro i s ea addr hi hpc haddr
  have hea : s.ea ea = addr := by
    rw [haddr]
    cases ea with
    | highC => exact wordOf_highPage s.regs.c
    | high a8 => exact wordOf_highPage a8
    | _ => rfl
  subst hea
  refine ⟨fun v hread => ?_, fun f hread => ?_⟩
  · exact (exec_of_rule_next hi rfl hpc (load_withPC_ok hread)).trans rfl
  · exact exec_of_rule_raise hi rfl hpc (load_withPC_error hread)

/-- Settles O13: A is stored at the effective address. -/
theorem storeAToMemory : Obligations.StoreAToMemory := by
  unfold Obligations.StoreAToMemory
  intro i s ea addr hi hpc haddr
  have hea : s.ea ea = addr := by
    rw [haddr]
    cases ea with
    | highC => exact wordOf_highPage s.regs.c
    | high a8 => exact wordOf_highPage a8
    | _ => rfl
  subst hea
  exact exec_of_rule_memWrite hi rfl hpc rfl

/-- Settles O14: the access is at the old HL, and HL then takes the next or the previous address. -/
theorem loadStoreStepsHL : Obligations.LoadStoreStepsHL := by
  unfold Obligations.LoadStoreStepsHL
  intro i s dir hl hhl hpc
  have happly : dir.apply s.regs.hl = hl := by
    rw [hhl]
    cases dir <;> rfl
  subst happly
  refine ⟨fun v hi hread => ?_, fun hi => ?_⟩
  · exact (exec_of_rule_next hi rfl hpc (load_withPC_ok hread)).trans rfl
  · refine (exec_of_rule_next hi rfl hpc rfl).trans ?_
    rw [memWrite_setPc]
    simp [State.setHL, State.returnCycles]

/-! ## The stack after the advance of PC -/

/-- A push with room: the two stores and SP (R600). -/
theorem push16_withPC {v : Word} {s : State} (pc : Word) (h : 2 ≤ s.sp.toNat) :
    push16 v { s with pc := pc } =
      .next { (s.memWrite (s.sp - 1) (hiByte v)).memWrite (s.sp - 2) (loByte v) with sp := s.sp - 2, pc := pc } := by
  rw [push16_next (s := { s with pc := pc }) h, memWrite_setPc s, memWrite_setPc (s.memWrite _ _)]

/-- A pop with both bytes readable: the word, low byte first, and SP (R600). -/
theorem pop16_withPC {s : State} {k : Word → State → Result} {lo hi : Byte} (pc : Word) (h : s.sp.toNat + 2 ≤ 0xFFFF)
    (hlo : s.memRead s.sp = .ok lo) (hhi : s.memRead (s.sp + 1) = .ok hi) :
    pop16 { s with pc := pc } k = k (wordOf hi lo) { s with sp := s.sp + 2, pc := pc } :=
  pop16_next (s := { s with pc := pc }) h ((memRead_setPc s _ pc).trans hlo) ((memRead_setPc s _ pc).trans hhi)

/-- A pop whose low byte, or else whose high byte, cannot be read (R600). -/
theorem pop16_withPC_error {s : State} {k : Word → State → Result} {f : FaultRecord} (pc : Word) (h : s.sp.toNat + 2 ≤ 0xFFFF)
    (hread : s.memRead s.sp = .error f ∨ (∃ lo, s.memRead s.sp = .ok lo) ∧ s.memRead (s.sp + 1) = .error f) :
    pop16 { s with pc := pc } k = raise f { s with pc := pc } := by
  refine (if_neg (Nat.not_lt.mpr h)).trans ?_
  rcases hread with hlo | ⟨⟨lo, hlo⟩, hhi⟩
  · exact load_withPC_error hlo
  · exact (load_withPC_ok hlo).trans (load_withPC_error hhi)

/-- The pairs of PUSH do not look at PC. -/
theorem State.stackPair_withPC (s : State) (q : StackPair) (pc : Word) : { s with pc := pc }.stackPair q = s.stackPair q := by
  cases q <;> rfl

/-- A pair other than AF reads back what a pop wrote to it. -/
theorem State.stackPair_setStackPair {q : StackPair} (h : q ≠ .af) (s : State) (v : Word) :
    (s.setStackPair q v).stackPair q = v := by
  cases q with
  | bc => exact s.pair_setPair_same .bc v
  | de => exact s.pair_setPair_same .de v
  | hl => exact s.pair_setPair_same .hl v
  | af => exact absurd rfl h

/-- A pop's write to a pair does not touch SP or PC. -/
theorem State.setStackPair_withSPPC (s : State) (q : StackPair) (v sp pc : Word) :
    { s with sp := sp, pc := pc }.setStackPair q v = { s.setStackPair q v with sp := sp, pc := pc } := by
  cases q <;> rfl

/-! ## 16-bit loads and the stack -/

/-- Settles O16: the pair takes the immediate, SP is stored low byte first, SP takes HL. -/
theorem pairAndSPLoads : Obligations.PairAndSPLoads := by
  unfold Obligations.PairAndSPLoads
  intro i s
  refine ⟨fun p nn hi hpc => ⟨?_, s.pair_setPair_same p nn⟩, fun nn hi hpc => ?_, fun hi hpc => ?_, rfl, rfl, rfl, rfl⟩
  · refine (exec_of_rule_next hi rfl hpc rfl).trans ?_
    rw [State.setPair_withPC]
    rfl
  · refine (exec_of_rule_next hi rfl hpc rfl).trans ?_
    rw [State.memWrite16, memWrite_setPc s, memWrite_setPc (s.memWrite _ _)]
    rfl
  · exact (exec_of_rule_next hi rfl hpc (assignSP_word _ _)).trans rfl

/-- Settles O17: the push of the pair, or its fault before any write. -/
theorem pushStoresPair : Obligations.PushStoresPair := by
  unfold Obligations.PushStoresPair
  intro i s q hi hpc
  refine ⟨fun hroom => ?_, fun hnoRoom => ?_, rfl, rfl, rfl, rfl⟩
  · refine (exec_of_rule_next hi rfl hpc (push16_withPC _ hroom)).trans ?_
    rw [State.stackPair_withPC]
    rfl
  · exact exec_of_rule_raise hi rfl hpc (push16_fault (s := { s with pc := s.pc + 1 }) hnoRoom)

/-- Settles O18: the pop into the pair, AF through the flag setter, or the pop's fault. -/
theorem popLoadsPair : Obligations.PopLoadsPair := by
  unfold Obligations.PopLoadsPair
  intro i s q hi hpc
  refine ⟨fun hsp lo hi' hlo hhi => ?_, fun hsp => ?_, fun hsp f hread => ?_⟩
  · have hpop := exec_of_rule_next hi rfl hpc (pop16_withPC _ hsp hlo hhi)
    rw [State.setStackPair_withSPPC] at hpop
    refine ⟨?_, fun hq => ⟨hpop, State.stackPair_setStackPair hq s _⟩⟩
    rintro rfl
    refine hpop.trans ?_
    simp [State.setStackPair, State.returnCycles, Flags.ofByte]
  · exact exec_of_rule_raise hi rfl hpc (pop16_fault (s := { s with pc := s.pc + 1 }) hsp)
  · exact exec_of_rule_raise hi rfl hpc (pop16_withPC_error _ hsp hread)

/-- The pushed bytes read back where they are plain storage (R600). -/
theorem memRead_pushed (v : Word) (s : State) (sp : Word) (h1 : isPlain (sp - 1)) (h2 : isPlain (sp - 2)) :
    ((s.memWrite (sp - 1) (hiByte v)).memWrite (sp - 2) (loByte v)).memRead (sp - 2) = .ok (loByte v) ∧
      ((s.memWrite (sp - 1) (hiByte v)).memWrite (sp - 2) (loByte v)).memRead (sp - 1) = .ok (hiByte v) := by
  have hne : (sp - 1).toNat ≠ (sp - 2).toNat := by bv_omega
  rw [memWrite_plain _ _ h2, memRead_bus _ (isPlain_onBus h2), memRead_bus _ (isPlain_onBus h1), memWrite_plain _ _ h1]
  exact ⟨by rw [busRead_busPoke_same], by rw [busRead_busPoke_ne _ _ hne, busRead_busPoke_same]⟩

/-- Settles O19: the pushed bytes read back at the new SP, and the pop takes them. -/
theorem stackRoundTrip : Obligations.StackRoundTrip := by
  unfold Obligations.StackRoundTrip
  intro v s hroom h1 h2
  have hhigh : s.sp - 2 + 1 = s.sp - 1 := by bv_omega
  have hback : s.sp - 2 + 2 = s.sp := by bv_omega
  obtain ⟨hlo, hhi⟩ := memRead_pushed v s s.sp h1 h2
  refine ⟨_, push16_next hroom, rfl, ?_⟩
  generalize hu : (s.memWrite (s.sp - 1) (hiByte v)).memWrite (s.sp - 2) (loByte v) = u at hlo hhi
  have hlo' : State.memRead { u with sp := s.sp - 2 } (s.sp - 2) = .ok (loByte v) := hlo
  have hhi' : State.memRead { u with sp := s.sp - 2 } (s.sp - 2 + 1) = .ok (hiByte v) := hhigh ▸ hhi
  refine ⟨hlo', hhi', fun k => ?_⟩
  rw [pop16_next (s := { u with sp := s.sp - 2 }) (by bv_omega) hlo' hhi', wordOf_hiByte_loByte]
  simp only [hback]

end Sys2Proof.Machine
end

section
/-! SUPPORT. The families 43_alu8.md and 45_rotate_shift.md: results and flags as the rules state them, and O20 to O23, O29 and O30,
assembled from them. -/

namespace Sys2Proof.Machine

open Sys2Proof

/-! ## Results and flags of the 8-bit ALU -/

/-- A carry as a byte. -/
theorem ofNat_boolToNat (b : Bool) : BitVec.ofNat 8 b.toNat = (BitVec.ofBool b).setWidth 8 := by
  cases b <;> rfl

/-- `Add8` (R700): the wrapped sum; the carry-in counts in both carries. -/
theorem add8_eq (a b : Byte) (cin : Bool) :
    add8 a b cin =
      (a + b + (BitVec.ofBool cin).setWidth 8,
        { z := decide (a + b + (BitVec.ofBool cin).setWidth 8 = 0), n := false
          h := decide (0xF < a.toNat % 16 + b.toNat % 16 + cin.toNat)
          c := decide (0xFF < a.toNat + b.toNat + cin.toNat) }) := by
  have hsum : BitVec.ofNat 8 (a.toNat + b.toNat + cin.toNat) = a + b + (BitVec.ofBool cin).setWidth 8 := by
    rw [BitVec.ofNat_add, BitVec.ofNat_add, ofNat_boolToNat]
    simp
  rw [add8, hsum, beq_eq_decide]

/-- `Sub8` (R700): the wrapped difference; the borrow-in counts in both borrows. -/
theorem sub8_eq (a b : Byte) (cin : Bool) :
    sub8 a b cin =
      (a - b - (BitVec.ofBool cin).setWidth 8,
        { z := decide (a - b - (BitVec.ofBool cin).setWidth 8 = 0), n := true
          h := decide (a.toNat % 16 < b.toNat % 16 + cin.toNat)
          c := decide (a.toNat < b.toNat + cin.toNat) }) := by
  have hcin : trunc8 (cin.toNat : Int) = (BitVec.ofBool cin).setWidth 8 := by cases cin <;> rfl
  have hdiff : trunc8 ((a.toNat : Int) - b.toNat - cin.toNat) = a - b - (BitVec.ofBool cin).setWidth 8 := by
    rw [trunc8_sub, trunc8_sub, trunc8_toNat, trunc8_toNat, hcin]
  have hlow : ((a.toNat % 16 : Nat) : Int) - (b.toNat % 16 : Nat) - cin.toNat < 0 ↔
      a.toNat % 16 < b.toNat % 16 + cin.toNat := by omega
  have hborrow : (a.toNat : Int) - b.toNat - cin.toNat < 0 ↔ a.toNat < b.toNat + cin.toNat := by omega
  simp only [sub8, hdiff, hlow, hborrow, beq_eq_decide]

/-- `Sub8` without a borrow-in: the result is zero exactly on equal operands. -/
theorem sub8_false (a b : Byte) :
    sub8 a b false =
      (a - b, { z := decide (a = b), n := true, h := decide (a.toNat % 16 < b.toNat % 16), c := decide (a.toNat < b.toNat) }) := by
  rw [sub8_eq]
  simp [BitVec.sub_eq_iff_eq_add]

/-- INC of one byte (R725). -/
theorem inc8_eq (v : Byte) (f : Flags) :
    inc8 v f = (v + 1, { z := decide (v = 0xFF), n := false, h := decide (v.extractLsb' 0 4 = 0xF#4), c := f.c }) := by
  have hzero : v + 1 = 0 ↔ v = 0xFF := by bv_omega
  have hlow : v.toNat % 16 = 0xF ↔ v.extractLsb' 0 4 = 0xF#4 := by simp [← BitVec.toNat_inj]
  simp only [inc8, beq_eq_decide, hzero, hlow]

/-- DEC of one byte (R727). -/
theorem dec8_eq (v : Byte) (f : Flags) :
    dec8 v f = (v - 1, { z := decide (v = 1), n := true, h := decide (v.extractLsb' 0 4 = 0x0#4), c := f.c }) := by
  have hzero : v - 1 = 0 ↔ v = 1 := by bv_omega
  have hlow : v.toNat % 16 = 0x0 ↔ v.extractLsb' 0 4 = 0x0#4 := by simp [← BitVec.toNat_inj]
  simp only [dec8, beq_eq_decide, hzero, hlow]

/-! ## The 8-bit ALU inside the frame -/

/-- The sequential advance does not change what an ALU operand reads. -/
theorem State.reads_withPC {s : State} {src : Source} {v : Byte} (pc : Word) (h : s.reads src v) :
    { s with pc := pc }.reads src v := by
  cases src with
  | reg r => exact h
  | memHL => exact (memRead_setPc s s.regs.hl pc).trans h
  | imm n => exact h

/-- An ALU rule of known operand and result writes A and the flags. -/
theorem aluA_next {s : State} {op : AluOp} {src : Source} {v r : Byte} {f : Flags} (hread : s.reads src v)
    (hop : alu8 op s.regs.a v s.flags = (r, f)) : aluA op src s = .next ((s.setReg .a r).setFlags f) := by
  rw [aluA, withSource_reads hread, hop]

/-- An ALU instruction writes A, the flags, PC and the cycle count (R701 to R724). -/
theorem exec_alu {i : Instr} {s : State} {op : AluOp} {src : Source} {v r : Byte} {f : Flags} (hi : formOf i = .alu op src)
    (hread : s.reads src v) (hpc : s.pc.toNat + src.length ≤ 0xFFFF) (hop : alu8 op s.regs.a v s.flags = (r, f)) :
    exec i s =
      .next { s with
        regs := { s.regs with a := r }, flags := f
        pc := s.pc + BitVec.ofNat 16 src.length, stepCycles := src.cycles } :=
  (exec_of_rule_next hi rfl hpc (aluA_next (State.reads_withPC _ hread) hop)).trans rfl

/-- Settles O20: ADD is `Add8` without a carry-in, ADC with fC. -/
theorem addAndAdc : Obligations.AddAndAdc := by
  unfold Obligations.AddAndAdc
  intro i s src v hread hpc
  refine ⟨fun hi => exec_alu hi hread hpc ?_, fun hi r hr => exec_alu hi hread hpc ?_⟩
  · simp [alu8, add8_eq]
  · rw [hr]
    exact add8_eq _ _ _

/-- Settles O21: SUB and CP are `Sub8` without a borrow-in, SBC with fC. -/
theorem subSbcCp : Obligations.SubSbcCp := by
  unfold Obligations.SubSbcCp
  intro i s src v hread hpc
  refine ⟨fun hi => exec_alu hi hread hpc (sub8_false _ _), fun hi r hr => exec_alu hi hread hpc ?_,
    fun hi => exec_alu hi hread hpc ?_⟩
  · rw [hr]
    exact sub8_eq _ _ _
  · rw [alu8, sub8_false]

/-- Settles O22: when each result is zero. -/
theorem andXorOr : Obligations.AndXorOr := by
  unfold Obligations.AndXorOr
  intro i s src v hread hpc
  refine ⟨fun hi => exec_alu hi hread hpc ?_, fun hi => exec_alu hi hread hpc ?_, fun hi => exec_alu hi hread hpc ?_⟩
  · simp only [alu8, and8, beq_eq_decide]
  · have hzero : s.regs.a ^^^ v = 0 ↔ s.regs.a = v := BitVec.xor_eq_zero_iff
    simp only [alu8, xor8, beq_eq_decide, hzero]
  · have hzero : s.regs.a ||| v = 0 ↔ s.regs.a = 0 ∧ v = 0 := BitVec.or_eq_zero_iff
    simp only [alu8, or8, beq_eq_decide, hzero]

/-- A read-modify-write instruction of known result (R725 to R728, R905 to R920). -/
theorem exec_modify {i : Instr} {s : State} {form : Form} {len cost : Nat} {t : Target} {g : Byte → Flags → Byte × Flags}
    {v r : Byte} {f : Flags} (hi : formOf i = form) (hform : runForm form = execute len cost (modify t g))
    (hread : s.targetReads t v) (hpc : s.pc.toNat + len ≤ 0xFFFF) (hg : g v s.flags = (r, f)) :
    exec i s =
      .next { s.writeTarget t r with flags := f, pc := s.pc + BitVec.ofNat 16 len, stepCycles := cost } := by
  rw [exec_form, hi, hform, execute_modify hread hpc, hg]

theorem runForm_inc8 (t : Target) : runForm (.inc8 t) = execute 1 (if t = .memHL then 12 else 4) (modify t inc8) := by
  cases t <;> rfl

theorem runForm_dec8 (t : Target) : runForm (.dec8 t) = execute 1 (if t = .memHL then 12 else 4) (modify t dec8) := by
  cases t <;> rfl

/-- Settles O23: the two results with their flags. -/
theorem incDecByte : Obligations.IncDecByte := by
  unfold Obligations.IncDecByte
  intro i s t v hread hpc
  exact ⟨fun hi => exec_modify hi (runForm_inc8 t) hread hpc (inc8_eq v _),
    fun hi => exec_modify hi (runForm_dec8 t) hread hpc (dec8_eq v _)⟩

/-! ## Rotates, shifts and SWAP -/

/-- `Rot` (R900) as a movement of bit fields. -/
theorem rotShift_eq (op : RotOp) (v : Byte) (carry : Bool) : rotShift op v carry = (rotCarry op v, rotResult op v carry) := by
  have hmsb : v.getLsbD 7 = v.msb := (BitVec.msb_eq_getLsbD_last v).symm
  cases op <;> simp only [rotShift, rotCarry, rotResult, hmsb] <;> congr 1
  all_goals
    ext i hi
    interval_cases i <;>
      simp [BitVec.getElem_append (n := 7) (m := 1), BitVec.getElem_append (n := 1) (m := 7),
        BitVec.getElem_append (n := 4) (m := 4), BitVec.getElem_sshiftRight, ← hmsb]

/-- The 0xCB-space rotates take fZ from the result (R905 to R920). -/
theorem rot8_eq (op : RotOp) (v : Byte) (f : Flags) :
    rot8 op v f =
      (rotResult op v f.c, { z := decide (rotResult op v f.c = 0), n := false, h := false, c := rotCarry op v }) := by
  simp only [rot8, rotShift_eq, beq_eq_decide]

/-- The accumulator rotates clear fZ (R901 to R904). -/
theorem rotA8_eq (op : RotOp) (v : Byte) (f : Flags) :
    rotA8 op v f = (rotResult op v f.c, { z := false, n := false, h := false, c := rotCarry op v }) := by
  simp only [rotA8, rot8_eq]

/-- Row by row: the one-byte rotates are the four rotations. -/
theorem rotA_op_mem {i : Instr} {op : RotOp} (hi : formOf i = .rotA op) : op ∈ [RotOp.rlc, .rrc, .rl, .rr] := by
  cases i <;> cases hi <;> decide

theorem runForm_rot (op : RotOp) (t : Target) :
    runForm (.rot op t) = execute 2 (if t = .memHL then 16 else 8) (modify t (rot8 op)) := by
  cases t <;> rfl

/-- Settles O29: a rotation of A that clears fZ. -/
theorem accumulatorRotates : Obligations.AccumulatorRotates := by
  unfold Obligations.AccumulatorRotates
  intro i s op hi hpc
  exact ⟨rotA_op_mem hi, exec_modify (t := .reg .a) hi rfl rfl hpc (rotA8_eq op _ _)⟩

/-- Settles O30: a read-modify-write of the operand. -/
theorem prefixRotatesAndShifts : Obligations.PrefixRotatesAndShifts := by
  unfold Obligations.PrefixRotatesAndShifts
  intro i s op t v hi hread hpc
  exact exec_modify hi (runForm_rot op t) hread hpc (rot8_eq op v _)

end Sys2Proof.Machine
end

section
/-! SUPPORT. The families 47_control_transfer.md and 48_cpu_control.md: a conditional form whose condition holds or fails, the targets
of jumps, pops into PC, HALT's skip, and O32 to O38, assembled from them. -/

namespace Sys2Proof.Machine

open Sys2Proof

/-! ## A conditional form (R1100) -/

section
variable {i : Instr} {s : State} {len cost notTaken : Nat} {cc : Cond} {rule : State → Result} (hpc : s.pc.toNat + len ≤ 0xFFFF)
include hpc

/-- Where its condition holds, a conditional form is the unconditional one. -/
theorem executeIf_holds (hc : s.flags.holds cc = true) :
    executeIf len cost notTaken (condHolds cc) rule s = execute len cost rule s := by
  rw [executeIf_taken hpc hc, execute_next hpc]

/-- Where its condition fails, it only advances PC. -/
theorem exec_notTaken {f : Form} (hi : formOf i = f) (hf : runForm f = executeIf len cost notTaken (condHolds cc) rule)
    (hc : s.flags.holds cc = false) :
    exec i s = .next { s with pc := s.pc + BitVec.ofNat 16 len, stepCycles := notTaken } := by
  rw [exec_form, hi, hf, executeIf_notTaken hpc hc]
  rfl

end

/-! ## Targets -/

theorem assignPC_next {v : Int} {s : State} (h : 0 ≤ v ∧ v ≤ 0xFFFF) : assignPC v s = .next { s with pc := trunc16 v } :=
  if_pos h

/-- PCnext as a number, inside the address space. -/
theorem toNat_add_ofNat {w : Word} {n : Nat} (h : w.toNat + n ≤ 0xFFFF) : (w + BitVec.ofNat 16 n).toNat = w.toNat + n := by
  rw [BitVec.toNat_add, BitVec.toNat_ofNat]
  omega

/-- The restart addresses are 16-bit values (R1111). -/
theorem restart_target : ∀ t : Fin 8, (t.val * 8 : Int) = ((BitVec.ofNat 16 (t.val * 8)).toNat : Int) := by
  decide

/-! ## Jumps -/

/-- Settles O32: each target is a 16-bit value, so its assignment is in range. -/
theorem absoluteJumps : Obligations.AbsoluteJumps := by
  unfold Obligations.AbsoluteJumps
  intro i s
  refine ⟨fun nn hi hpc => ?_, fun cc nn hi hpc => ?_, fun hi hpc => ?_⟩
  · exact (exec_of_rule_next hi rfl hpc (assignPC_word nn _)).trans rfl
  · cases hc : s.flags.holds cc with
    | true =>
      rw [exec_form, hi]
      exact (executeIf_holds hpc hc).trans ((execute_of_rule_next hpc (assignPC_word nn _)).trans rfl)
    | false => exact exec_notTaken hpc hi rfl hc
  · exact (exec_of_rule_next hi rfl hpc (assignPC_word _ _)).trans rfl

/-- A relative jump to a target in the address space (R1104). -/
theorem jumpBy_next {e : Byte} {s : State} (h : 0 ≤ (s.pc.toNat : Int) + e.toInt ∧ (s.pc.toNat : Int) + e.toInt ≤ 0xFFFF) :
    jumpBy e s = .next { s with pc := s.pc + e.signExtend 16 } := by
  rw [← trunc16_add_s8]
  exact assignPC_next h

/-- A relative jump out of the address space (R1104). -/
theorem jumpBy_fault {e : Byte} {s : State}
    (h : (s.pc.toNat : Int) + e.toInt < 0 ∨ 0xFFFF < (s.pc.toNat : Int) + e.toInt) :
    jumpBy e s = raise (.pcRange (s.pc.toNat + e.toInt)) s :=
  assignPC_fault (v := s.pc.toNat + e.toInt) (by omega)

/-- Settles O33: a taken jump adds the displacement to PCnext, and only a taken one can fault. -/
theorem relativeJumps : Obligations.RelativeJumps := by
  unfold Obligations.RelativeJumps
  intro i s e target htarget hpc
  have hnext : (s.pc + 2 : Word).toNat = s.pc.toNat + 2 := toNat_add_ofNat hpc
  have htarget : target = ((s.pc + 2 : Word).toNat : Int) + e.toInt := by omega
  subst htarget
  refine ⟨fun htaken => ?_, fun cc hi hc => exec_notTaken hpc hi rfl hc⟩
  have hexec : exec i s = execute 2 12 (jumpBy e) s := by
    rcases htaken with hi | ⟨cc, hi, hc⟩
    · rw [exec_form, hi]
      rfl
    · rw [exec_form, hi]
      exact executeIf_holds hpc hc
  rw [hexec]
  refine ⟨fun hin => ?_, fun hout => ?_⟩
  · exact (execute_of_rule_next hpc (jumpBy_next (s := { s with pc := s.pc + 2 }) hin)).trans rfl
  · exact execute_of_rule_raise hpc (jumpBy_fault (s := { s with pc := s.pc + 2 }) hout)

/-! ## Calls and restarts -/

/-- A push of PCnext with room and the jump after it (R1106, R1111). -/
theorem push16_jump {s : State} (pc target : Word) (h : 2 ≤ s.sp.toNat) :
    andThen (push16 pc { s with pc := pc }) (assignPC target.toNat) =
      .next { (s.memWrite (s.sp - 1) (hiByte pc)).memWrite (s.sp - 2) (loByte pc) with sp := s.sp - 2, pc := target } := by
  rw [push16_withPC pc h, andThen_next, assignPC_word]

/-- A push without room ends the transfer before any write (R600). -/
theorem push16_jump_fault {s : State} {k : State → Result} (pc : Word) (h : s.sp.toNat < 2) :
    andThen (push16 pc { s with pc := pc }) k = raise (.spRange (s.sp.toNat - 2)) { s with pc := pc } := by
  rw [push16_fault (s := { s with pc := pc }) h, andThen_raise]

/-- Settles O34: the push of PCnext and then the target, or the push's fault. -/
theorem callsAndRestarts : Obligations.CallsAndRestarts := by
  unfold Obligations.CallsAndRestarts
  refine ⟨fun i s nn back hback hpc => ⟨fun htaken => ?_, fun cc hi hc => ?_⟩, fun i s t back hi hback hpc => ?_⟩
  · subst hback
    have hexec : exec i s = execute 3 24 (callTo nn) s := by
      rcases htaken with hi | ⟨cc, hi, hc⟩
      · rw [exec_form, hi]
        rfl
      · rw [exec_form, hi]
        exact executeIf_holds hpc hc
    rw [hexec]
    refine ⟨fun hroom => ?_, fun hnoRoom => ?_⟩
    · exact (execute_of_rule_next hpc (push16_jump _ nn hroom)).trans rfl
    · exact execute_of_rule_raise hpc (push16_jump_fault _ hnoRoom)
  · subst hback
    exact exec_notTaken hpc hi rfl hc
  · subst hback
    refine ⟨fun hroom => ?_, fun hnoRoom => ?_⟩
    · have hrule := push16_jump (s.pc + 1) (BitVec.ofNat 16 (t.val * 8)) hroom
      rw [← restart_target] at hrule
      exact (exec_of_rule_next hi rfl hpc hrule).trans rfl
    · exact exec_of_rule_raise hi rfl hpc (push16_jump_fault _ hnoRoom)

/-! ## Returns -/

/-- A return with both bytes readable (R1108). -/
theorem popPC_withPC {s : State} {lo hi : Byte} (pc : Word) (h : s.sp.toNat + 2 ≤ 0xFFFF) (hlo : s.memRead s.sp = .ok lo)
    (hhi : s.memRead (s.sp + 1) = .ok hi) :
    popPC { s with pc := pc } = .next { s with sp := s.sp + 2, pc := wordOf hi lo } :=
  (pop16_withPC pc h hlo hhi).trans (assignPC_word _ _)

/-- Settles O35: the pop into PC, RETI's IME after it, and the pop's faults. -/
theorem returns : Obligations.Returns := by
  unfold Obligations.Returns
  intro i s hpc
  refine ⟨fun hsp lo hi' hlo hhi => ⟨fun hi => ?_, fun cc hi hc => ?_, fun hi => ?_⟩, fun htaken => ?_,
    fun cc hi hc => exec_notTaken hpc hi rfl hc⟩
  · exact (exec_of_rule_next hi rfl hpc (popPC_withPC _ hsp hlo hhi)).trans rfl
  · rw [exec_form, hi]
    exact (executeIf_holds hpc hc).trans ((execute_of_rule_next hpc (popPC_withPC _ hsp hlo hhi)).trans rfl)
  · have hrule : returnFromInterrupt { s with pc := s.pc + 1 } = _ :=
      congrArg (andThen · _) (popPC_withPC _ hsp hlo hhi)
    exact (exec_of_rule_next hi rfl hpc hrule).trans rfl
  · have hfault {r : FaultRecord} (h : popPC { s with pc := s.pc + 1 } = raise r { s with pc := s.pc + 1 }) :
        exec i s = raise r { s with pc := s.pc + 1 } := by
      rcases htaken with hi | hi | ⟨cc, hi, hc⟩
      · exact exec_of_rule_raise hi rfl hpc h
      · exact exec_of_rule_raise hi rfl hpc (congrArg (andThen · _) h)
      · rw [exec_form, hi]
        exact (executeIf_holds hpc hc).trans (execute_of_rule_raise hpc h)
    refine ⟨fun hsp => hfault ?_, fun hsp f hread => hfault ?_⟩
    · exact pop16_fault (s := { s with pc := s.pc + 1 }) hsp
    · exact pop16_withPC_error _ hsp hread

/-- Settles O36: the return reads the two bytes that the call pushed. -/
theorem callThenReturn : Obligations.CallThenReturn := by
  unfold Obligations.CallThenReturn
  intro i j s nn hi hj hpc hnn hroom h1 h2
  have hcall := ((callsAndRestarts.1 i s nn _ rfl hpc).1 (.inl hi)).1 hroom
  have hhigh : s.sp - 2 + 1 = s.sp - 1 := by bv_omega
  obtain ⟨hlo, hhi⟩ := memRead_pushed (s.pc + 3) s s.sp h1 h2
  generalize hu : (s.memWrite (s.sp - 1) (hiByte (s.pc + 3))).memWrite (s.sp - 2) (loByte (s.pc + 3)) = u at hcall hlo hhi
  have hnext : nn.toNat + 1 ≤ 0xFFFF := by bv_omega
  have hsp : (s.sp - 2).toNat + 2 ≤ 0xFFFF := by bv_omega
  have hret := ((returns j { u with sp := s.sp - 2, pc := nn, stepCycles := 24 } hnext).1 hsp _ _ hlo (hhigh ▸ hhi)).1 hj
  refine ⟨_, _, hcall, rfl, hret, wordOf_hiByte_loByte _, ?_, ?_, ?_⟩
  · exact BitVec.sub_add_cancel _ _
  · rw [← hu, memWrite_regs, memWrite_regs]
  · rw [← hu, memWrite_flags, memWrite_flags]

/-! ## CPU control -/

/-- Settles O37: NOP, DI and EI inside the frame, STOP on the unimplemented path. -/
theorem nopStopDiEi : Obligations.NopStopDiEi := by
  unfold Obligations.NopStopDiEi
  intro i s
  refine ⟨fun hi hpc => ?_, fun hi hpc => ?_, fun hi hpc => ?_, fun hi hpc => ?_⟩
  · exact encode_exec_of_form hi rfl ((execute_of_rule_next (rule := .next) hpc rfl).trans rfl)
  · exact encode_exec_of_form hi rfl (unimplemented_next hpc)
  · exact encode_exec_of_form hi rfl ((execute_of_rule_next (rule := setIME false) hpc rfl).trans rfl)
  · exact encode_exec_of_form hi rfl ((execute_of_rule_next (rule := setIME true) hpc rfl).trans rfl)

/-- The lookup does not look at PC. -/
theorem fetchEntry_withPC (s : State) (p pc : Word) : fetchEntry { s with pc := pc } p = fetchEntry s p := by
  simp only [fetchEntry, memRead_setPc]

/-- HALT with IME = 1 halts (R1202). -/
theorem haltRule_waits {s : State} (h : s.ime = true) : haltRule s = .next { s with halted := true } :=
  if_pos h

/-- HALT with IME = 0 skips the instruction that is looked up at PC (R1202). -/
theorem haltRule_skips {s : State} {o : Fetched} (h : s.ime = false) (ho : fetchEntry s s.pc = .ok o) :
    haltRule s = assignPC (s.pc.toNat + o.entry.length) s := by
  simp only [haltRule, h, ho, if_neg Bool.false_ne_true]

/-- HALT with IME = 0 raises the fault of that lookup (R1202). -/
theorem haltRule_error {s : State} {f : FaultRecord} (h : s.ime = false) (hf : fetchEntry s s.pc = .error f) :
    haltRule s = raise f s := by
  simp only [haltRule, h, hf, if_neg Bool.false_ne_true]

/-- Settles O38: HALT's rule inside the frame, by IME and by the lookup at PC. -/
theorem haltWaitsOrSkips : Obligations.HaltWaitsOrSkips := by
  unfold Obligations.HaltWaitsOrSkips
  intro i s hi hpc
  have hnext : (s.pc + 1 : Word).toNat = s.pc.toNat + 1 := toNat_add_ofNat hpc
  have hexec : exec i s = execute 1 4 haltRule s := by
    rw [exec_form, hi]
    exact halt_eq_execute s
  have herror {f : FaultRecord} (hime : s.ime = false) (hf : fetchEntry s (s.pc + 1) = .error f) :
      exec i s = raise f { s with pc := s.pc + 1 } :=
    hexec.trans (execute_of_rule_raise hpc
      (haltRule_error (s := { s with pc := s.pc + 1 }) hime ((fetchEntry_withPC s _ _).trans hf)))
  refine ⟨fun hime => ?_, fun hime j hwf hfetches => ?_, fun hime hlast hread => herror hime ?_,
    fun hime j b hwf hbytes hread => herror hime ?_, fun hime f hread => herror hime ?_⟩
  · rw [hexec]
    exact (execute_of_rule_next hpc (haltRule_waits (s := { s with pc := s.pc + 1 }) hime)).trans rfl
  · obtain ⟨e, he, hlen, hparts, -⟩ := tableEntry_spec j hwf
    have hskips (hp : (s.pc + 1).toNat + (opcodeBytes j).length ≤ 0x10000) :=
      haltRule_skips (s := { s with pc := s.pc + 1 }) hime
        ((fetchEntry_withPC s _ _).trans (fetchEntry_of_fetches he hfetches hp))
    rw [hexec, ← hlen]
    refine ⟨fun hin => ?_, fun hout hopcode => ?_⟩
    · have hrule := (hskips (by omega)).trans (assignPC_advance (s := { s with pc := s.pc + 1 }) (hnext ▸ hin))
      exact (execute_of_rule_next hpc hrule).trans rfl
    · have hrule := (hskips (by omega)).trans
        (assignPC_fault (v := ((s.pc + 1 : Word).toNat : Int) + e.length) (by omega))
      have hvalue : ((s.pc + 1 : Word).toNat : Int) + e.length = (s.pc.toNat : Int) + 1 + e.length := by omega
      rw [hvalue] at hrule
      exact execute_of_rule_raise hpc hrule
  · exact fetchEntry_prefix_last hread (BitVec.eq_of_toNat_eq (hnext.trans hlast))
  · obtain ⟨b', hb', hbytes', -⟩ := encode_of_not_wellFormed hwf
    rw [hbytes] at hbytes'
    exact fetchEntry_undefined (List.head_eq_of_cons_eq hbytes' ▸ hb') hread
  · rcases hread with hread | ⟨hsecond, hread, herr⟩
    · exact fetchEntry_error hread
    · refine fetchEntry_prefix_error hread (BitVec.toNat_ne.mpr ?_) ?_
      · rw [hnext]
        exact Nat.ne_of_lt hsecond
      · rwa [BitVec.add_assoc]

end Sys2Proof.Machine
end

section
/-! SUPPORT. What every instruction leaves unchanged: the effect of each form's rule, from what its operations can do, and O41 to O43,
assembled from it. -/

namespace Sys2Proof.Machine

open Sys2Proof

/-! ## Stores in order -/

/-- The state after these `MemWrite`s, the first of the list first. -/
def State.storeAll (stores : List (Word × Byte)) (s : State) : State := stores.foldl (fun s x => s.memWrite x.1 x.2) s

@[simp] theorem storeAll_nil (s : State) : s.storeAll [] = s := rfl

@[simp] theorem storeAll_cons (x : Word × Byte) (stores : List (Word × Byte)) (s : State) :
    s.storeAll (x :: stores) = (s.memWrite x.1 x.2).storeAll stores := rfl

/-- Stores change the bus and the bank controller only. -/
theorem storeAll_only (stores : List (Word × Byte)) (s : State) :
    s.storeAll stores = { s with bus := (s.storeAll stores).bus, bank := (s.storeAll stores).bank } := by
  induction stores generalizing s with
  | nil => rfl
  | cons x stores ih =>
    rw [storeAll_cons, ih]
    simp

/-- Stores do not look at PC. -/
theorem storeAll_withPC (stores : List (Word × Byte)) (s : State) (pc : Word) :
    State.storeAll stores { s with pc := pc } = { s.storeAll stores with pc := pc } := by
  induction stores generalizing s with
  | nil => rfl
  | cons x stores ih => rw [storeAll_cons, storeAll_cons, memWrite_setPc, ih]

/-! ## Frames of the register file and of the flags -/

/-- The registers that are not written keep their values. -/
def RegsFrame (written : Reg8 → Bool) (old new : Regs) : Prop := ∀ r, written r = false → new.get r = old.get r

theorem RegsFrame.refl {written : Reg8 → Bool} (g : Regs) : RegsFrame written g g := fun _ _ => rfl

theorem RegsFrame.set {written : Reg8 → Bool} {old new : Regs} (h : RegsFrame written old new) {r : Reg8} (v : Byte)
    (hr : written r = true) : RegsFrame written old (new.set r v) := by
  intro q hq
  have hne : q ≠ r := by
    rintro rfl
    exact Bool.false_ne_true (hq.symm.trans hr)
  rw [Regs.get_set_other _ _ _ _ hne, h q hq]

/-- The flags that are not written keep their values. -/
def FlagsFrame (written old new : Flags) : Prop :=
  (written.z = false → new.z = old.z) ∧ (written.n = false → new.n = old.n) ∧ (written.h = false → new.h = old.h) ∧
    (written.c = false → new.c = old.c)

theorem FlagsFrame.refl {written : Flags} (f : Flags) : FlagsFrame written f f :=
  ⟨fun _ => rfl, fun _ => rfl, fun _ => rfl, fun _ => rfl⟩

/-! ## The effect of a form -/

/-- What the state after a form's rule may differ in from the state before: the registers, SP and the flags that the form writes, its
stores, PC, the cycle count, and the control bits of the five forms that write one. -/
structure Effect (f : Form) (s t : State) : Prop where
  regs : RegsFrame f.writesReg s.regs t.regs
  sp : f.writesSP = false → t.sp = s.sp
  flags : FlagsFrame f.writesFlag s.flags t.flags
  ime : t.ime ≠ s.ime → f ∈ [Form.di, .ei, .reti]
  halted : t.halted ≠ s.halted → f = .halt ∧ s.ime = true ∧ t.halted = true
  seen : t.unimplementedSeen ≠ s.unimplementedSeen → f = .stop ∧ t.unimplementedSeen = true
  stores : ∃ l : List (Word × Byte), l.map Prod.fst = f.storedAt s ∧
    t = { s.storeAll l with
      regs := t.regs, flags := t.flags, pc := t.pc, sp := t.sp, ime := t.ime, halted := t.halted
      unimplementedSeen := t.unimplementedSeen, stepCycles := t.stepCycles }

section
variable {f : Form} {s : State}

/-- A rule that writes no control bit. -/
theorem Effect.of_stores {t : State} (l : List (Word × Byte)) (hl : l.map Prod.fst = f.storedAt s)
    (ht : t = { s.storeAll l with regs := t.regs, flags := t.flags, pc := t.pc, sp := t.sp })
    (hregs : RegsFrame f.writesReg s.regs t.regs) (hsp : f.writesSP = false → t.sp = s.sp)
    (hflags : FlagsFrame f.writesFlag s.flags t.flags) : Effect f s t where
  regs := hregs
  sp := hsp
  flags := hflags
  ime h := by rw [ht, storeAll_only] at h; exact absurd rfl h
  halted h := by rw [ht, storeAll_only] at h; exact absurd rfl h
  seen h := by rw [ht, storeAll_only] at h; exact absurd rfl h
  stores := by
    refine ⟨l, hl, ?_⟩
    rw [ht]

/-- A rule that stores nothing and writes no control bit. -/
theorem Effect.of_noStore {g : Regs} {fl : Flags} {pc sp : Word} (hl : f.storedAt s = [])
    (hregs : RegsFrame f.writesReg s.regs g) (hsp : f.writesSP = false → sp = s.sp)
    (hflags : FlagsFrame f.writesFlag s.flags fl) : Effect f s { s with regs := g, flags := fl, pc := pc, sp := sp } :=
  .of_stores [] hl.symm rfl hregs hsp hflags

/-- A rule that only assigns PC, or nothing. -/
theorem Effect.of_pc (pc : Word) (hl : f.storedAt s = []) : Effect f s { s with pc := pc } :=
  .of_noStore hl (.refl _) (fun _ => rfl) (.refl _)

/-- A rule that writes a pair or SP. -/
theorem Effect.of_setPair {p : Pair} {v : Word} (hl : f.storedAt s = []) (hregs : f.writesReg = pairHas p)
    (hsp : f.writesSP = (p == .sp)) : Effect f s (s.setPair p v) := by
  have hset {r q : Reg8} (hr : pairHas p r = true) (hq : pairHas p q = true) :
      RegsFrame f.writesReg s.regs ((s.regs.set r (hiByte v)).set q (loByte v)) :=
    hregs ▸ ((RegsFrame.refl s.regs).set _ hr).set _ hq
  cases p with
  | bc => exact .of_noStore hl (hset (r := .b) (q := .c) rfl rfl) (fun _ => rfl) (.refl _)
  | de => exact .of_noStore hl (hset (r := .d) (q := .e) rfl rfl) (fun _ => rfl) (.refl _)
  | hl => exact .of_noStore hl (hset (r := .h) (q := .l) rfl rfl) (fun _ => rfl) (.refl _)
  | sp => exact .of_noStore hl (.refl _) (fun h => by rw [hsp] at h; cases h) (.refl _)

/-- A rule that stores one byte and writes nothing else. -/
theorem Effect.of_store {addr : Word} {v : Byte} (hl : f.storedAt s = [addr]) : Effect f s (s.memWrite addr v) := by
  refine .of_stores [(addr, v)] hl.symm rfl ?_ (fun _ => memWrite_sp ..) ?_
  · rw [memWrite_regs]
    exact .refl _
  · rw [memWrite_flags]
    exact .refl _

end

/-! ## What each operation can answer -/

section
variable {s t : State}

theorem assignPair_eq_next {p : Pair} {v : Int} (h : assignPair p v s = .next t) : t = s.setPair p (trunc16 v) := by
  by_cases hp : p = .sp
  · subst hp
    exact (assignSP_eq_next.mp h).2
  · rw [assignPair_pair hp] at h
    cases h
    rfl

theorem push16_eq_next {v : Word} (h : push16 v s = .next t) :
    t = { (s.memWrite (s.sp - 1) (hiByte v)).memWrite (s.sp - 2) (loByte v) with sp := s.sp - 2 } := by
  by_cases hroom : 2 ≤ s.sp.toNat
  · rw [push16_next hroom] at h
    cases h
    rfl
  · rw [push16_fault (Nat.lt_of_not_le hroom)] at h
    cases h

theorem pop16_eq_next {k : Word → State → Result} (h : pop16 s k = .next t) :
    ∃ v, k v { s with sp := s.sp + 2 } = .next t := by
  by_cases hsp : s.sp.toNat + 2 ≤ 0xFFFF
  · have hload := h
    rw [pop16, if_neg (Nat.not_lt.mpr hsp)] at hload
    obtain ⟨lo, hlo, hload⟩ := load_eq_next.mp hload
    obtain ⟨hi, hhi, -⟩ := load_eq_next.mp hload
    exact ⟨_, (pop16_next hsp hlo hhi).symm.trans h⟩
  · rw [pop16_fault (Nat.lt_of_not_le hsp)] at h
    cases h

theorem popPC_eq_next (h : popPC s = .next t) : ∃ pc, t = { s with sp := s.sp + 2, pc := pc } := by
  obtain ⟨pc, hpc⟩ := pop16_eq_next h
  rw [assignPC_word] at hpc
  cases hpc
  exact ⟨pc, rfl⟩

theorem modify_eq_next {tgt : Target} {g : Byte → Flags → Byte × Flags} (h : modify tgt g s = .next t) :
    ∃ v, t = (s.writeTarget tgt (g v s.flags).1).setFlags (g v s.flags).2 := by
  cases tgt with
  | reg r => cases h; exact ⟨_, rfl⟩
  | memHL =>
    obtain ⟨v, -, hv⟩ := load_eq_next.mp h
    cases hv
    exact ⟨v, rfl⟩

theorem examine_eq_next {tgt : Target} {g : Byte → Flags → Flags} (h : examine tgt g s = .next t) :
    ∃ v, t = s.setFlags (g v s.flags) := by
  cases tgt with
  | reg r => cases h; exact ⟨_, rfl⟩
  | memHL =>
    obtain ⟨v, -, hv⟩ := load_eq_next.mp h
    cases hv
    exact ⟨v, rfl⟩

theorem aluA_eq_next {op : AluOp} {src : Source} (h : aluA op src s = .next t) :
    ∃ v, t = (s.setReg .a (alu8 op s.regs.a v s.flags).1).setFlags (alu8 op s.regs.a v s.flags).2 := by
  cases src with
  | reg r => cases h; exact ⟨_, rfl⟩
  | memHL =>
    obtain ⟨v, -, hv⟩ := load_eq_next.mp h
    cases hv
    exact ⟨v, rfl⟩
  | imm n => cases h; exact ⟨_, rfl⟩

theorem haltRule_eq_next (h : haltRule s = .next t) :
    s.ime = true ∧ t = { s with halted := true } ∨ ∃ pc, t = { s with pc := pc } := by
  by_cases hime : s.ime = true
  · rw [haltRule_waits hime] at h
    cases h
    exact .inl ⟨hime, rfl⟩
  · have hime := Bool.eq_false_of_not_eq_true hime
    cases hfetch : fetchEntry s s.pc with
    | error f => rw [haltRule_error hime hfetch] at h; cases h
    | ok o =>
      rw [haltRule_skips hime hfetch] at h
      exact .inr ⟨_, (assignPC_eq_next.mp h).2⟩

end

/-! ## The effect of each rule -/

section
variable {f : Form} {s t : State}

/-- A read-modify-write of a register or of the byte at HL. -/
theorem Effect.of_modify {tgt : Target} {g : Byte → Flags → Byte × Flags} (h : modify tgt g s = .next t)
    (hl : f.storedAt s = tgt.storedAt s) (hregs : f.writesReg = targetIs tgt)
    (hflags : ∀ v, FlagsFrame f.writesFlag s.flags (g v s.flags).2) : Effect f s t := by
  obtain ⟨v, rfl⟩ := modify_eq_next h
  cases tgt with
  | reg r =>
    refine .of_noStore hl ((RegsFrame.refl _).set _ ?_) (fun _ => rfl) (hflags v)
    rw [hregs]
    exact beq_self_eq_true _
  | memHL =>
    refine .of_stores [(s.regs.hl, _)] hl.symm rfl ?_ (fun _ => memWrite_sp _ _ s) (hflags v)
    rw [State.setFlags_regs, State.writeTarget, memWrite_regs]
    exact .refl _

/-- A push (R604). -/
theorem Effect.of_push {v pc : Word} (hl : f.storedAt s = s.pushedAt) (hsp : f.writesSP = true) :
    Effect f s
      { (s.memWrite (s.sp - 1) (hiByte v)).memWrite (s.sp - 2) (loByte v) with sp := s.sp - 2, pc := pc } := by
  refine .of_stores [(s.sp - 1, hiByte v), (s.sp - 2, loByte v)] hl.symm rfl ?_ (fun h => ?_) ?_
  · simp only [memWrite_regs]
    exact .refl _
  · rw [hsp] at h
    cases h
  · simp only [memWrite_flags]
    exact .refl _

/-- A push and the jump after it (R1106, R1111). -/
theorem Effect.of_push_jump {v : Word} {target : Int} (h : andThen (push16 v s) (assignPC target) = .next t)
    (hl : f.storedAt s = s.pushedAt) (hsp : f.writesSP = true) : Effect f s t := by
  obtain ⟨u, hu, ht⟩ := andThen_eq_next.mp h
  obtain rfl := push16_eq_next hu
  obtain ⟨-, rfl⟩ := assignPC_eq_next.mp ht
  exact .of_push hl hsp

/-- A pop into PC (R1108). -/
theorem Effect.of_popPC (h : popPC s = .next t) (hl : f.storedAt s = []) (hsp : f.writesSP = true) : Effect f s t := by
  obtain ⟨pc, rfl⟩ := popPC_eq_next h
  refine .of_noStore hl (.refl _) (fun h => ?_) (.refl _)
  rw [hsp] at h
  cases h

/-- A rule of the CPU control bits, HALT's skip and RETI's pop among them (R1110, R1202 to R1205). -/
theorem Effect.of_control {pc sp : Word} {ime halted seen : Bool} (hl : f.storedAt s = []) (hsp : f.writesSP = false → sp = s.sp)
    (hime : ime ≠ s.ime → f ∈ [Form.di, .ei, .reti])
    (hhalted : halted ≠ s.halted → f = .halt ∧ s.ime = true ∧ halted = true)
    (hseen : seen ≠ s.unimplementedSeen → f = .stop ∧ seen = true) :
    Effect f s { s with pc := pc, sp := sp, ime := ime, halted := halted, unimplementedSeen := seen } where
  regs := .refl _
  sp := hsp
  flags := .refl _
  ime := hime
  halted := hhalted
  seen := hseen
  stores := ⟨[], hl.symm, rfl⟩

end

/-- A form that writes all four flags. -/
theorem FlagsFrame.all {old new : Flags} : FlagsFrame ⟨true, true, true, true⟩ old new := ⟨nofun, nofun, nofun, nofun⟩

/-- Every form's rule has the form's effect. -/
theorem Form.rule_effect {f : Form} {s t : State} (htaken : f.taken s = true) (h : f.rule s = .next t) : Effect f s t := by
  have hset (g : Regs) (r : Reg8) (v : Byte) : RegsFrame (· == r) g (g.set r v) :=
    (RegsFrame.refl g).set v (beq_self_eq_true r)
  cases f with
  | ldRegReg dst src => cases h; exact .of_noStore rfl (hset _ _ _) (fun _ => rfl) (.refl _)
  | ldRegImm dst n => cases h; exact .of_noStore rfl (hset _ _ _) (fun _ => rfl) (.refl _)
  | ldRegMem dst =>
    obtain ⟨v, -, hv⟩ := load_eq_next.mp h
    cases hv
    exact .of_noStore rfl (hset _ _ _) (fun _ => rfl) (.refl _)
  | ldMemReg src => cases h; exact .of_store rfl
  | ldMemImm n => cases h; exact .of_store rfl
  | ldAFrom ea =>
    obtain ⟨v, -, hv⟩ := load_eq_next.mp h
    cases hv
    exact .of_noStore rfl (hset _ _ _) (fun _ => rfl) (.refl _)
  | ldATo ea => cases h; exact .of_store rfl
  | ldAFromHL dir =>
    obtain ⟨v, -, hv⟩ := load_eq_next.mp h
    cases hv
    exact .of_noStore rfl
      ((((RegsFrame.refl s.regs).set (r := .a) v rfl).set (r := .h) (hiByte (dir.apply s.regs.hl)) rfl).set (r := .l)
        (loByte (dir.apply s.regs.hl)) rfl) (fun _ => rfl) (.refl _)
  | ldAToHL dir =>
    cases h
    refine .of_stores [(s.regs.hl, s.regs.a)] rfl rfl ?_ (fun _ => memWrite_sp _ _ s) ?_
    · rw [State.setHL_regs, memWrite_regs]
      exact ((RegsFrame.refl s.regs).set (r := .h) (hiByte (dir.apply s.regs.hl)) rfl).set (r := .l)
        (loByte (dir.apply s.regs.hl)) rfl
    · rw [State.setHL_flags, memWrite_flags]
      exact .refl _
  | ldPairImm p nn => cases h; exact .of_setPair rfl rfl rfl
  | ldMemSP nn =>
    cases h
    refine .of_stores [(nn, loByte s.sp), (nn + 1, hiByte s.sp)] rfl rfl ?_ (fun _ => ?_) ?_
    · simp only [State.memWrite16, memWrite_regs]
      exact .refl _
    · simp only [State.memWrite16, memWrite_sp]
    · simp only [State.memWrite16, memWrite_flags]
      exact .refl _
  | ldSPHL =>
    obtain ⟨-, rfl⟩ := assignSP_eq_next.mp h
    exact .of_noStore rfl (.refl _) nofun (.refl _)
  | push q =>
    obtain rfl := push16_eq_next h
    exact .of_push rfl rfl
  | pop q =>
    obtain ⟨v, hv⟩ := pop16_eq_next (k := fun v s => .next (s.setStackPair q v)) h
    cases hv
    cases q with
    | bc => exact .of_noStore rfl (((RegsFrame.refl s.regs).set (r := .b) (hiByte v) rfl).set (r := .c) (loByte v) rfl) nofun (.refl _)
    | de => exact .of_noStore rfl (((RegsFrame.refl s.regs).set (r := .d) (hiByte v) rfl).set (r := .e) (loByte v) rfl) nofun (.refl _)
    | hl => exact .of_noStore rfl (((RegsFrame.refl s.regs).set (r := .h) (hiByte v) rfl).set (r := .l) (loByte v) rfl) nofun (.refl _)
    | af => exact .of_noStore rfl (hset s.regs .a (hiByte v)) nofun .all
  | alu op src =>
    obtain ⟨v, rfl⟩ := aluA_eq_next h
    cases op with
    | cp => exact .of_noStore rfl (.refl s.regs) (fun _ => rfl) .all
    | _ => exact .of_noStore rfl (hset _ .a _) (fun _ => rfl) .all
  | inc8 tgt => exact .of_modify (g := Machine.inc8) h rfl rfl fun _ => ⟨nofun, nofun, nofun, fun _ => rfl⟩
  | dec8 tgt => exact .of_modify (g := Machine.dec8) h rfl rfl fun _ => ⟨nofun, nofun, nofun, fun _ => rfl⟩
  | daa => cases h; exact .of_noStore rfl (hset _ .a _) (fun _ => rfl) ⟨nofun, fun _ => rfl, nofun, nofun⟩
  | cpl => cases h; exact .of_noStore rfl (hset _ .a _) (fun _ => rfl) ⟨fun _ => rfl, nofun, nofun, fun _ => rfl⟩
  | scf => cases h; exact .of_noStore rfl (.refl _) (fun _ => rfl) ⟨fun _ => rfl, nofun, nofun, nofun⟩
  | ccf => cases h; exact .of_noStore rfl (.refl _) (fun _ => rfl) ⟨fun _ => rfl, nofun, nofun, nofun⟩
  | addHL p =>
    cases h
    exact .of_noStore rfl (((RegsFrame.refl s.regs).set (r := .h) (hiByte _) rfl).set (r := .l) (loByte _) rfl)
      (fun _ => rfl) ⟨fun _ => rfl, nofun, nofun, nofun⟩
  | incPair p =>
    obtain rfl := assignPair_eq_next h
    exact .of_setPair rfl rfl rfl
  | decPair p =>
    obtain rfl := assignPair_eq_next h
    exact .of_setPair rfl rfl rfl
  | addSP e =>
    obtain ⟨-, rfl⟩ := assignSP_eq_next.mp h
    exact .of_noStore rfl (.refl _) nofun .all
  | ldHLSP e =>
    cases h
    exact .of_noStore rfl (((RegsFrame.refl s.regs).set (r := .h) (hiByte _) rfl).set (r := .l) (loByte _) rfl)
      (fun _ => rfl) .all
  | rotA op => cases h; exact .of_noStore rfl (hset _ .a _) (fun _ => rfl) .all
  | rot op tgt => exact .of_modify (g := Machine.rot8 op) h rfl rfl fun _ => .all
  | bit b tgt =>
    obtain ⟨v, rfl⟩ := examine_eq_next h
    exact .of_noStore rfl (.refl _) (fun _ => rfl) ⟨nofun, nofun, nofun, fun _ => rfl⟩
  | res b tgt => exact .of_modify (g := Machine.resBit b) h rfl rfl fun _ => .refl _
  | set b tgt => exact .of_modify (g := Machine.setBit b) h rfl rfl fun _ => .refl _
  | jp nn =>
    obtain ⟨-, rfl⟩ := assignPC_eq_next.mp h
    exact .of_pc _ rfl
  | jpCond cc nn =>
    obtain ⟨-, rfl⟩ := assignPC_eq_next.mp h
    exact .of_pc _ rfl
  | jpHL =>
    obtain ⟨-, rfl⟩ := assignPC_eq_next.mp h
    exact .of_pc _ rfl
  | jr e =>
    obtain ⟨-, rfl⟩ := assignPC_eq_next.mp h
    exact .of_pc _ rfl
  | jrCond cc e =>
    obtain ⟨-, rfl⟩ := assignPC_eq_next.mp h
    exact .of_pc _ rfl
  | call nn => exact .of_push_jump h rfl rfl
  | callCond cc nn => exact .of_push_jump h (if_pos htaken) rfl
  | ret => exact .of_popPC h rfl rfl
  | retCond cc => exact .of_popPC h rfl rfl
  | reti =>
    obtain ⟨u, hu, ht⟩ := andThen_eq_next.mp h
    obtain ⟨pc, rfl⟩ := popPC_eq_next hu
    cases ht
    exact .of_control rfl nofun (fun _ => by simp) (absurd rfl) (absurd rfl)
  | rst n => exact .of_push_jump h rfl rfl
  | nop => cases h; exact .of_pc _ rfl
  | halt =>
    rcases haltRule_eq_next h with ⟨hime, rfl⟩ | ⟨pc, rfl⟩
    · exact .of_control rfl (fun _ => rfl) (absurd rfl) (fun _ => ⟨rfl, hime, rfl⟩) (absurd rfl)
    · exact .of_pc pc rfl
  | stop => cases h; exact .of_control rfl (fun _ => rfl) (absurd rfl) (absurd rfl) (fun _ => ⟨rfl, rfl⟩)
  | di => cases h; exact .of_control rfl (fun _ => rfl) (fun _ => by simp) (absurd rfl) (absurd rfl)
  | ei => cases h; exact .of_control rfl (fun _ => rfl) (fun _ => by simp) (absurd rfl) (absurd rfl)
  | undefined b => cases h

/-! ## The effect of an instruction -/

/-- The stored addresses do not depend on PC. -/
theorem Form.storedAt_withPC (f : Form) (s : State) (pc : Word) : f.storedAt { s with pc := pc } = f.storedAt s := by
  cases f with
  | ldATo ea => cases ea <;> rfl
  | _ => rfl

/-- A form whose condition fails stores nothing. -/
theorem Form.storedAt_of_not_taken {f : Form} {s : State} (h : f.taken s = false) : f.storedAt s = [] := by
  cases f with
  | callCond cc nn => exact if_neg (Bool.eq_false_iff.mp h)
  | jpCond cc nn => rfl
  | jrCond cc e => rfl
  | retCond cc => rfl
  | _ => cases h

/-- The advance of PC before a rule and the cycle count after it are part of the effect. -/
theorem Effect.of_frame {f : Form} {s u : State} {pc : Word} (cost : Nat) (h : Effect f { s with pc := pc } u) :
    Effect f s (u.returnCycles cost) where
  regs := h.regs
  sp := h.sp
  flags := h.flags
  ime := h.ime
  halted := h.halted
  seen := h.seen
  stores := by
    obtain ⟨l, hl, hu⟩ := h.stores
    refine ⟨l, hl.trans (f.storedAt_withPC s pc), ?_⟩
    rw [storeAll_withPC] at hu
    rw [hu]
    rfl

/-- Every instruction that answers a next state has its form's effect. -/
theorem exec_effect {i : Instr} {s t : State} (h : exec i s = .next t) : Effect (formOf i) s t := by
  obtain ⟨-, s', rfl, hrun⟩ := exec_eq_next h
  rcases hrun with ⟨htaken, u, hu, rfl⟩ | ⟨hfails, rfl⟩
  · exact .of_frame _ (Form.rule_effect htaken hu)
  · exact .of_frame _ (.of_pc _ (Form.storedAt_of_not_taken hfails))

/-- The stores of an instruction, and nothing else outside the CPU (R200, R1200). -/
theorem exec_memory {i : Instr} {s t : State} (h : exec i s = .next t) :
    ∃ l : List (Word × Byte), l.map Prod.fst = (formOf i).storedAt s ∧ t.bus = (s.storeAll l).bus ∧
      t.bank = (s.storeAll l).bank ∧ t.ppu = s.ppu ∧ t.frameCycles = s.frameCycles ∧ t.cart = s.cart ∧
      t.fault = s.fault ∧ t.extReq = s.extReq := by
  obtain ⟨l, hl, ht⟩ := (exec_effect h).stores
  refine ⟨l, hl, ?_⟩
  rw [ht]
  refine ⟨rfl, rfl, ?_⟩
  rw [storeAll_only]
  exact ⟨rfl, rfl, rfl, rfl, rfl⟩

/-- Settles O41, from the effect of the instruction. -/
theorem controlAndDeviceFrame : Obligations.ControlAndDeviceFrame := by
  unfold Obligations.ControlAndDeviceFrame
  intro i s t h
  obtain ⟨l, -, -, -, hppu, hframe, hcart, hfault, hext⟩ := exec_memory h
  have he := exec_effect h
  exact ⟨hppu, hframe, hcart, hfault, hext, he.ime, he.halted, he.seen⟩

/-- Settles O42, from the effect of the instruction. -/
theorem flagFrame : Obligations.FlagFrame :=
  fun _ _ _ h => (exec_effect h).flags

/-- Settles O43, from the effect of the instruction. -/
theorem registerFrame : Obligations.RegisterFrame :=
  fun _ _ _ h => ⟨(exec_effect h).regs, (exec_effect h).sp⟩

end Sys2Proof.Machine
end

section
/-! SUPPORT. The family 20_memory.md, frames: what one store and what the stores of one instruction leave in memory, and O44, assembled
from them. -/

namespace Sys2Proof.Machine

open Sys2Proof

/-! ## What one store can write -/

section
variable (s : State) {x : Word} (v : Byte)

/-- A store below 0x8000 writes bank registers only (R221, R230 to R233). -/
theorem memWrite_below (h : x.toNat < 0x8000) :
    ∃ b : Bank, s.memWrite x v = { s with bank := b } ∧ b.ram = s.bank.ram := by
  by_cases h1 : x.toNat < 0x2000
  · exact ⟨_, memWrite_ramEnable s v h1, rfl⟩
  by_cases h2 : x.toNat < 0x4000
  · exact ⟨_, memWrite_romBank s v (Nat.le_of_not_lt h1) h2, rfl⟩
  by_cases h3 : x.toNat < 0x6000
  · refine ⟨_, memWrite_bank2 s v (Nat.le_of_not_lt h2) h3, ?_⟩
    unfold Bank.bank2Write
    split <;> rfl
  · refine ⟨_, memWrite_mode s v (Nat.le_of_not_lt h3) h, ?_⟩
    unfold Bank.modeWrite
    split <;> rfl

/-- A store in the external-RAM window writes at most the byte at its index (R234). -/
theorem memWrite_inExtRam (hlo : 0xA000 ≤ x.toNat) (hhi : x.toNat < 0xC000) :
    ∃ m : Memory, s.memWrite x v = { s with bank := { s.bank with ram := m } } ∧
      ∀ k, k ≠ s.extRamIndex x.toNat → Store.read Config.ramUnlisted m k = Store.read Config.ramUnlisted s.bank.ram k := by
  rw [memWrite_extRam s v hlo hhi]
  by_cases hr : s.extRamReached x.toNat = true
  · exact ⟨_, extRamWrite_reached v hr, fun k hk => Store.read_write_other _ _ _ _ hk⟩
  · exact ⟨_, extRamWrite_unreached v hr, fun _ _ => rfl⟩

/-- A raw bus write leaves every byte but its own and, at the trigger, the DMA destination (R202 to R205). -/
theorem busRead_busWrite_other {addr k : Nat} (hne : addr ≠ k)
    (hdma : addr = Params.addrDMA → k < Params.addrOAM ∨ Params.addrOAM + Params.dmaLength ≤ k) :
    (s.busWrite addr v).busRead k = s.busRead k := by
  unfold State.busWrite
  split
  · next h => exact busRead_busPoke_ne s _ (h ▸ hne.symm)
  split
  · rfl
  split
  · next h =>
    rw [State.dmaWrite, busRead_dmaCopy_outside _ (hdma h)]
    exact busRead_busPoke_ne s _ (h ▸ hne.symm)
  · exact busRead_busPoke_ne s _ hne.symm

/-- A store leaves every bus byte that it does not reach. -/
theorem busRead_memWrite_other {k : Nat}
    (h : 0x8000 ≤ x.toNat → x.toNat ≠ k ∧ (x = 0xFF46 → k < 0xFE00 ∨ 0xFE8C ≤ k)) :
    (s.memWrite x v).busRead k = s.busRead k := by
  by_cases hlow : x.toNat < 0x8000
  · obtain ⟨b, hb, -⟩ := memWrite_below s v hlow
    rw [hb]
    rfl
  obtain ⟨hne, hdma⟩ := h (Nat.le_of_not_lt hlow)
  by_cases hext : 0xA000 ≤ x.toNat ∧ x.toNat < 0xC000
  · obtain ⟨m, hm, -⟩ := memWrite_inExtRam s v hext.1 hext.2
    rw [hm]
    rfl
  · rw [memWrite_bus s v (by omega)]
    exact busRead_busWrite_other s v hne fun hx => hdma (BitVec.eq_of_toNat_eq hx)

/-- A store leaves every external-RAM byte but the one at its index. -/
theorem ramRead_memWrite_other {k : Nat} (h : 0xA000 ≤ x.toNat → x.toNat < 0xC000 → s.extRamIndex x.toNat ≠ k) :
    Store.read Config.ramUnlisted (s.memWrite x v).bank.ram k = Store.read Config.ramUnlisted s.bank.ram k := by
  by_cases hlow : x.toNat < 0x8000
  · obtain ⟨b, hb, hram⟩ := memWrite_below s v hlow
    rw [hb, hram]
  by_cases hext : 0xA000 ≤ x.toNat ∧ x.toNat < 0xC000
  · obtain ⟨m, hm, hram⟩ := memWrite_inExtRam s v hext.1 hext.2
    rw [hm]
    exact hram k (h hext.1 hext.2).symm
  · rw [memWrite_bus s v (by omega), busWrite_bus]

/-- A store at or above 0x8000 leaves the bank registers. -/
theorem bank_memWrite_above (h : 0x8000 ≤ x.toNat) :
    (s.memWrite x v).bank = { s.bank with ram := (s.memWrite x v).bank.ram } := by
  by_cases hext : 0xA000 ≤ x.toNat ∧ x.toNat < 0xC000
  · obtain ⟨m, hm, -⟩ := memWrite_inExtRam s v hext.1 hext.2
    rw [hm]
  · rw [memWrite_bus s v (by omega), busWrite_bus]

/-- An external-RAM index depends on the RAM bank only (R234). -/
theorem extRamIndex_congr {s t : State} (h : t.bank.ramBank = s.bank.ramBank) (addr : Nat) :
    t.extRamIndex addr = s.extRamIndex addr := by
  unfold State.extRamIndex
  rw [h]

/-- MemRead looks at a byte of memory only through its window (R220). -/
theorem memRead_eq_of_window {s t : State} {a : Word} {m : Memory} (hcart : t.cart = s.cart) (hbank : t.bank = { s.bank with ram := m })
    (hbus : (0x8000 ≤ a.toNat ∧ a.toNat < 0xA000) ∨ 0xC000 ≤ a.toNat → t.busRead a.toNat = s.busRead a.toNat)
    (hram : 0xA000 ≤ a.toNat → a.toNat < 0xC000 →
      Store.read Config.ramUnlisted m (s.extRamIndex a.toNat) =
        Store.read Config.ramUnlisted s.bank.ram (s.extRamIndex a.toNat)) :
    t.memRead a = s.memRead a := by
  by_cases hlow : a.toNat < 0x8000
  · have hindex : t.romIndex a.toNat = s.romIndex a.toNat := by rw [State.romIndex, hbank]; rfl
    simp only [State.memRead, if_pos hlow, State.romRead, hindex, hcart]
  by_cases hext : 0xA000 ≤ a.toNat ∧ a.toNat < 0xC000
  · obtain ⟨hlo, hhi⟩ := hext
    have hindex : t.extRamIndex a.toNat = s.extRamIndex a.toNat := extRamIndex_congr (by rw [hbank]) _
    have hreached : t.extRamReached a.toNat = s.extRamReached a.toNat := by
      simp only [State.extRamReached, hindex, hbank, hcart]
    have hstored : t.bank.ram = m := by rw [hbank]
    rw [memRead_extRam t hlo hhi, memRead_extRam s hlo hhi, State.extRamRead, State.extRamRead, hreached, hindex, hstored,
      hram hlo hhi]
  · rw [memRead_bus t (by omega), memRead_bus s (by omega), hbus (by omega)]

/-- A store at or above 0x8000, but to the DMA trigger, leaves every other address. -/
theorem memRead_memWrite_other {a : Word} (hx : 0x8000 ≤ x.toNat ∧ x ≠ 0xFF46) (hne : a ≠ x) :
    (s.memWrite x v).memRead a = s.memRead a := by
  have hne' : x.toNat ≠ a.toNat := BitVec.toNat_ne.mp hne.symm
  refine memRead_eq_of_window (memWrite_cart x v s) (bank_memWrite_above s v hx.1) (fun _ => ?_) fun hlo hhi => ?_
  · exact busRead_memWrite_other s v fun _ => ⟨hne', fun h => absurd h hx.2⟩
  · refine ramRead_memWrite_other s v fun hxlo hxhi => ?_
    unfold State.extRamIndex
    omega

end

/-! ## What the stores of one instruction leave -/

theorem storeAll_cart (l : List (Word × Byte)) (s : State) : (s.storeAll l).cart = s.cart := by rw [storeAll_only]

section
variable {l : List (Word × Byte)} {s : State}

theorem memRead_storeAll_other {a : Word} (h : ∀ x ∈ l.map Prod.fst, 0x8000 ≤ x.toNat ∧ x ≠ 0xFF46)
    (ha : a ∉ l.map Prod.fst) : (s.storeAll l).memRead a = s.memRead a := by
  induction l generalizing s with
  | nil => rfl
  | cons x l ih =>
    rw [List.map_cons, List.forall_mem_cons] at h
    rw [List.map_cons, List.mem_cons, not_or] at ha
    rw [storeAll_cons, ih h.2 ha.2, memRead_memWrite_other s x.2 h.1 ha.1]

theorem busRead_storeAll_other {k : Nat}
    (h : ∀ x ∈ l.map Prod.fst, 0x8000 ≤ x.toNat → x.toNat ≠ k ∧ (x = 0xFF46 → k < 0xFE00 ∨ 0xFE8C ≤ k)) :
    (s.storeAll l).busRead k = s.busRead k := by
  induction l generalizing s with
  | nil => rfl
  | cons x l ih =>
    simp only [List.map_cons, List.forall_mem_cons] at h
    rw [storeAll_cons, ih h.2, busRead_memWrite_other s x.2 h.1]

theorem bank_storeAll_above (h : ∀ x ∈ l.map Prod.fst, 0x8000 ≤ x.toNat) :
    (s.storeAll l).bank = { s.bank with ram := (s.storeAll l).bank.ram } := by
  induction l generalizing s with
  | nil => rfl
  | cons x l ih =>
    simp only [List.map_cons, List.forall_mem_cons] at h
    rw [storeAll_cons, ih h.2, bank_memWrite_above s x.2 h.1]

/-- Stores at or above 0x8000 keep the RAM bank, so each index is that of the state before. -/
theorem ramRead_storeAll_above {k : Nat} (hall : ∀ x ∈ l.map Prod.fst, 0x8000 ≤ x.toNat)
    (h : ∀ x ∈ l.map Prod.fst, 0xA000 ≤ x.toNat → x.toNat < 0xC000 → s.extRamIndex x.toNat ≠ k) :
    Store.read Config.ramUnlisted (s.storeAll l).bank.ram k = Store.read Config.ramUnlisted s.bank.ram k := by
  induction l generalizing s with
  | nil => rfl
  | cons x l ih =>
    simp only [List.map_cons, List.forall_mem_cons] at hall h
    have hindex (a : Nat) : (s.memWrite x.1 x.2).extRamIndex a = s.extRamIndex a :=
      extRamIndex_congr (by rw [bank_memWrite_above s x.2 hall.1]) a
    rw [storeAll_cons, ih hall.2 (by simpa only [hindex] using h.2), ramRead_memWrite_other s x.2 h.1]

/-- Stores outside the external-RAM window leave the external RAM. -/
theorem ramRead_storeAll_outside {k : Nat} (h : ∀ x ∈ l.map Prod.fst, ¬(0xA000 ≤ x.toNat ∧ x.toNat < 0xC000)) :
    Store.read Config.ramUnlisted (s.storeAll l).bank.ram k = Store.read Config.ramUnlisted s.bank.ram k := by
  induction l generalizing s with
  | nil => rfl
  | cons x l ih =>
    simp only [List.map_cons, List.forall_mem_cons] at h
    rw [storeAll_cons, ih h.2, ramRead_memWrite_other s x.2 fun hlo hhi => (h.1 ⟨hlo, hhi⟩).elim]

end

/-- An instruction stores nothing, one byte, or two bytes at adjoining addresses. -/
theorem Form.storedAt_cases (f : Form) (s : State) :
    f.storedAt s = [] ∨ (∃ x, f.storedAt s = [x]) ∨ ∃ x y, f.storedAt s = [x, y] ∧ (y = x + 1 ∨ x = y + 1) := by
  have hpush : s.pushedAt = [s.sp - 1, s.sp - 2] ∧ s.sp - 1 = s.sp - 2 + 1 := ⟨rfl, by bv_omega⟩
  have htarget (t : Target) : t.storedAt s = [] ∨ ∃ x, t.storedAt s = [x] := by
    cases t with
    | reg r => exact .inl rfl
    | memHL => exact .inr ⟨_, rfl⟩
  cases f with
  | ldMemReg src => exact .inr (.inl ⟨_, rfl⟩)
  | ldMemImm n => exact .inr (.inl ⟨_, rfl⟩)
  | ldATo ea => exact .inr (.inl ⟨_, rfl⟩)
  | ldAToHL dir => exact .inr (.inl ⟨_, rfl⟩)
  | ldMemSP nn => exact .inr (.inr ⟨nn, nn + 1, rfl, .inl rfl⟩)
  | push q => exact .inr (.inr ⟨_, _, hpush.1, .inr hpush.2⟩)
  | inc8 t => exact (htarget t).imp_right .inl
  | dec8 t => exact (htarget t).imp_right .inl
  | rot op t => exact (htarget t).imp_right .inl
  | res b t => exact (htarget t).imp_right .inl
  | set b t => exact (htarget t).imp_right .inl
  | call nn => exact .inr (.inr ⟨_, _, hpush.1, .inr hpush.2⟩)
  | callCond cc nn =>
    by_cases hc : condHolds cc s = true
    · exact .inr (.inr ⟨_, _, (if_pos hc).trans hpush.1, .inr hpush.2⟩)
    · exact .inl (if_neg hc)
  | rst t => exact .inr (.inr ⟨_, _, hpush.1, .inr hpush.2⟩)
  | _ => exact .inl rfl

/-- No instruction stores both below 0x8000 and in the external-RAM window. -/
theorem Form.storedAt_not_mixed (f : Form) (s : State) :
    (∀ x ∈ f.storedAt s, 0x8000 ≤ x.toNat) ∨ ∀ x ∈ f.storedAt s, ¬(0xA000 ≤ x.toNat ∧ x.toNat < 0xC000) := by
  rcases f.storedAt_cases s with h | ⟨x, h⟩ | ⟨x, y, h, hadj⟩ <;>
    simp only [h, List.forall_mem_cons, List.not_mem_nil, false_imp_iff, implies_true, and_true, true_or]
  · omega
  · bv_omega

/-- Settles O44, from the stores of the instruction. -/
theorem memoryFrame : Obligations.MemoryFrame := by
  unfold Obligations.MemoryFrame
  intro i s t stored h hstored
  obtain ⟨l, hl, hbus, hbank, -, -, hcart, -⟩ := exec_memory h
  subst hstored
  have hmixed := (formOf i).storedAt_not_mixed s
  rw [← hl] at hmixed ⊢
  have hread (a : Word) : t.memRead a = (s.storeAll l).memRead a :=
    memRead_congr a hbus hbank (hcart.trans (storeAll_cart l s).symm)
  have hbusRead (k : Nat) : t.busRead k = (s.storeAll l).busRead k := by rw [State.busRead, hbus]; rfl
  refine ⟨fun hnone => ?_, fun hall a ha => ?_, fun k hk => ?_, fun k hk => ?_, fun hall => ?_⟩
  · obtain rfl := List.map_eq_nil_iff.mp hnone
    exact ⟨hbus, hbank, hread⟩
  · rw [hread, memRead_storeAll_other hall ha]
  · rw [hbusRead, busRead_storeAll_other hk]
  · rw [hbank]
    exact hmixed.elim (fun hall => ramRead_storeAll_above hall hk) ramRead_storeAll_outside
  · rw [hbank]
    exact bank_storeAll_above hall

end Sys2Proof.Machine
end

section
/-! SUPPORT. The family 60_exceptions.md, requests and pixels: what the host's requests do to IF, the shade of a pixel (R1311, R1315,
R1346), and O52 and O56, assembled from them. -/

namespace Sys2Proof.Machine

open Sys2Proof

/-! ## Requests -/

/-- The mask of a request is its bit. -/
theorem requestMask_eq : ∀ k : Fin 5, ((1 <<< k.val : Nat) : Byte) = BitVec.twoPow 8 k.val := by
  decide

/-- A request sets its own bit of IF (R1311). -/
theorem getLsbD_icFire_IF (k : Fin 5) (s : State) (i : Nat) :
    ((icFire k s).busRead Params.addrIF).getLsbD i = ((s.busRead Params.addrIF).getLsbD i || decide (i = k.val)) := by
  have hk : k.val < 8 := by omega
  rw [icFire, busRead_busPoke_same, BitVec.getLsbD_or, requestMask_eq, BitVec.getLsbD_twoPow]
  simp [hk, eq_comm]

/-- The requests that the host raises, in the order of this list (R1315). -/
def fireRequests (req : BitVec 5) (ks : List (Fin 5)) (s : State) : State :=
  ks.foldl (fun s k => if req.getLsbD k.val then icFire k s else s) s

theorem fireRequests_cons (req : BitVec 5) (k : Fin 5) (ks : List (Fin 5)) (s : State) :
    fireRequests req (k :: ks) s = fireRequests req ks (if req.getLsbD k.val then icFire k s else s) := rfl

/-- Requests write IF only. -/
theorem fireRequests_bus (req : BitVec 5) (ks : List (Fin 5)) (s : State) :
    fireRequests req ks s = { s with bus := (fireRequests req ks s).bus } := by
  induction ks generalizing s with
  | nil => rfl
  | cons k ks ih =>
    rw [fireRequests_cons, ih]
    split <;> rfl

theorem busRead_fireRequests_ne (req : BitVec 5) (ks : List (Fin 5)) (s : State) {a : Nat} (h : a ≠ Params.addrIF) :
    (fireRequests req ks s).busRead a = s.busRead a := by
  induction ks generalizing s with
  | nil => rfl
  | cons k ks ih =>
    rw [fireRequests_cons, ih]
    split
    · exact busRead_icFire_ne k s h
    · rfl

/-- Each raised request of the list is in IF afterwards, with what IF held. -/
theorem getLsbD_fireRequests_IF (req : BitVec 5) (ks : List (Fin 5)) (s : State) (i : Nat) :
    ((fireRequests req ks s).busRead Params.addrIF).getLsbD i =
      ((s.busRead Params.addrIF).getLsbD i || ks.any fun k => req.getLsbD k.val && decide (i = k.val)) := by
  induction ks generalizing s with
  | nil => simp [fireRequests]
  | cons k ks ih =>
    rw [fireRequests_cons, ih, List.any_cons]
    cases hk : req.getLsbD k.val with
    | true => simp only [if_true, getLsbD_icFire_IF, Bool.true_and, Bool.or_assoc]
    | false => simp only [if_neg Bool.false_ne_true, Bool.false_and, Bool.false_or]

/-- Without an input the host requests nothing (R1315). -/
theorem externalRequests_of_nil {s : State} (h : s.extReq = []) : externalRequests s = s := by
  simp only [externalRequests, h]

/-- The first input's requests are fired, and it is used up (R1315). -/
theorem externalRequests_of_cons {s : State} {req : BitVec 5} {rest : List (BitVec 5)} (h : s.extReq = req :: rest) :
    externalRequests s = fireRequests req [0, 1, 2, 3, 4] { s with extReq := rest } := by
  simp only [externalRequests, h, fireRequests]

/-- Settles O52: the queue's first input is or-ed into IF bit by bit. -/
theorem externalRequestsFire : Obligations.ExternalRequestsFire := by
  unfold Obligations.ExternalRequestsFire
  intro s
  refine ⟨fun hnone => ?_, fun req rest hsome => ?_⟩
  · exact externalRequests_of_nil hnone
  · rw [externalRequests_of_cons hsome]
    refine ⟨fireRequests_bus .., BitVec.eq_of_getLsbD_eq fun i hi => ?_, fun a ha => busRead_fireRequests_ne _ _ _ ha⟩
    refine (getLsbD_fireRequests_IF ..).trans ?_
    rw [BitVec.getLsbD_or]
    refine congrArg _ ?_
    interval_cases i <;> simp

/-! ## The shade of a pixel -/

/-- Where a pixel stands: its column and row in the chosen tile map, and the map's address, the window's where the window covers it
(R1346). -/
def tilePosition (s : State) (ly x : Nat) : Nat × Nat × Nat :=
  if (s.busRead Params.addrLCDC).getLsbD 5 ∧ (s.busRead Params.addrWY).toNat ≤ ly ∧
      ((s.busRead Params.addrWX).toNat : Int) - 7 ≤ (x : Int) then
    (((x : Int) - (((s.busRead Params.addrWX).toNat : Int) - 7)).toNat, ly - (s.busRead Params.addrWY).toNat,
      if (s.busRead Params.addrLCDC).getLsbD 6 then 0x9C00 else 0x9800)
  else
    ((x + (s.busRead Params.addrSCX).toNat) % 256, (ly + (s.busRead Params.addrSCY).toNat) % 256,
      if (s.busRead Params.addrLCDC).getLsbD 3 then 0x9C00 else 0x9800)

/-- The address of the tile of a map position (R1346). -/
def tileAddress (s : State) (px py map : Nat) : Nat :=
  let idx := s.busRead (map + py / 8 * 32 + px / 8)
  if (s.busRead Params.addrLCDC).getLsbD 4 then 0x8000 + idx.toNat * 16 else (0x9000 + s8 idx * 16).toNat

/-- The two plane bits of a column and row of a tile, as a colour index (R1346). -/
def colourIndex (s : State) (tile px py : Nat) : Nat :=
  bitOf (s.busRead (tile + py % 8 * 2 + 1)) (7 - px % 8) * 2 + bitOf (s.busRead (tile + py % 8 * 2)) (7 - px % 8)

/-- The parts of a pixel's shade. -/
theorem pixel_eq {s : State} {ly x px py map : Nat} (h : tilePosition s ly x = (px, py, map)) :
    pixel s ly x =
      (s.busRead Params.addrBGP).extractLsb' (2 * colourIndex s (tileAddress s px py map) px py) 2 := by
  have hparts : pixel s ly x =
      (s.busRead Params.addrBGP).extractLsb' (2 * colourIndex s
        (tileAddress s (tilePosition s ly x).1 (tilePosition s ly x).2.1 (tilePosition s ly x).2.2)
        (tilePosition s ly x).1 (tilePosition s ly x).2.1) 2 := rfl
  rw [hparts, h]

/-- The window covers a pixel from column WX - 7 on (R1346). -/
theorem windowColumn_iff (wx : Byte) (x : Nat) : ((wx.toNat : Int) - 7 ≤ (x : Int)) ↔ wx.toNat ≤ x + 7 := by
  omega

theorem windowColumn_eq (wx : Byte) (x : Nat) : ((x : Int) - ((wx.toNat : Int) - 7)).toNat = x + 7 - wx.toNat := by
  omega

/-- The tile address of a signed index, from 0x9000 (R1346). -/
theorem signedTile_eq (idx : Byte) :
    ((0x9000 : Int) + s8 idx * 16).toNat =
      if idx.toNat < 128 then 0x9000 + idx.toNat * 16 else 0x8000 + idx.toNat * 16 := by
  have hlt := idx.isLt
  rw [s8, BitVec.toInt_eq_toNat_cond]
  split <;> split <;> omega

/-- The palette entry of a colour index is its two-bit field of BGP (R1346). -/
theorem palette_toNat (bgp : Byte) (ci : Nat) : (bgp.extractLsb' (2 * ci) 2).toNat = bgp.toNat / 4 ^ ci % 4 := by
  rw [BitVec.extractLsb'_toNat, Nat.shiftRight_eq_div_pow, Nat.pow_mul]

/-- Settles O56: the position in the tile map by the window test, the tile by the index's sign, the palette field. -/
theorem pixelShade : Obligations.PixelShade := by
  unfold Obligations.PixelShade
  intro s ly x px py map tile ci hpos htile hci
  have hposition : tilePosition s ly x = (px, py, map) := by
    simp only [tilePosition, windowColumn_iff, windowColumn_eq]
    split at hpos
    · next hwin =>
      obtain ⟨rfl, rfl, rfl⟩ := hpos
      exact if_pos hwin
    · next hwin =>
      obtain ⟨rfl, rfl, rfl⟩ := hpos
      exact if_neg hwin
  have haddress : tileAddress s px py map = tile := by
    rw [htile]
    simp only [tileAddress, signedTile_eq]
    rfl
  have hindex : colourIndex s tile px py = ci := by
    rw [hci, colourIndex, Nat.mul_comm]
    rfl
  rw [pixel_eq hposition, haddress, hindex]
  exact palette_toNat _ ci

end Sys2Proof.Machine
end

section
/-! SUPPORT. The family 60_exceptions.md, one PPU step (R1340 to R1347): what its line update, its rendering and its V-blank edge do to
IF, the flags and the buffers, and O55, assembled from them. -/

namespace Sys2Proof.Machine

open Sys2Proof

/-! ## The line update -/

/-- A PPU step up to the rendering: the line and its start, then the phase (R1341 to R1344). -/
def ppuLine (cum : Nat) (s : State) : State :=
  setStatPhase (phaseOf (lineOf cum) (cum - lineOf cum * Params.lineCycles))
    (if lineOf cum = s.ppu.line then s else lineStart (lineOf cum) s)

/-- Then the rendering and the edge (R1345, R1347). -/
theorem ppuStep_eq (cum : Nat) (s : State) :
    ppuStep cum s =
      vblankEdge cum (hblank (phaseOf (lineOf cum) (cum - lineOf cum * Params.lineCycles)) (ppuLine cum s)) := rfl

/-- A line start writes bus bytes, the line and the render flag (R1342). -/
theorem lineStart_only (ln : Nat) (s : State) :
    lineStart ln s = { s with bus := (lineStart ln s).bus, ppu := { s.ppu with line := ln, rendered := false } } := by
  simp only [lineStart]
  split <;> rfl

/-- A line start with LY = LYC requests bit 1 (R1342). -/
theorem busRead_lineStart_IF (ln : Nat) (s : State) :
    (lineStart ln s).busRead Params.addrIF =
      s.busRead Params.addrIF ||| (if (lineStart ln s).busRead Params.addrLY = s.busRead Params.addrLYC then 2 else 0) := by
  rw [busRead_lineStart ln s (a := Params.addrLY) (by decide), if_pos rfl]
  generalize hs' : State.busPoke Params.addrLY (BitVec.ofNat 8 (((s.busRead Params.addrLY).toNat + 1) % 154))
    { s with ppu := { s.ppu with line := ln, rendered := false } } = s'
  have hother {a : Nat} (ha : a ≠ Params.addrLY) : s'.busRead a = s.busRead a := by
    rw [← hs']
    exact busRead_busPoke_ne _ _ ha
  have hly : s'.busRead Params.addrLY = BitVec.ofNat 8 (((s.busRead Params.addrLY).toNat + 1) % 154) := by
    rw [← hs']
    exact busRead_busPoke_same ..
  have hstart : lineStart ln s = if s'.busRead Params.addrLY = s'.busRead Params.addrLYC then icFire 1 s' else s' := by
    rw [← hs']
    rfl
  rw [hstart, hother (a := Params.addrLYC) (by decide), hly]
  split
  · rw [icFire, busRead_busPoke_same, hother (by decide)]
    rfl
  · rw [hother (by decide)]
    exact BitVec.or_zero.symm

section
variable (cum : Nat) (s : State)

/-- The line update writes bus bytes, the line and the render flag. -/
theorem ppuLine_only :
    ppuLine cum s =
      { s with
        bus := (ppuLine cum s).bus
        ppu := { s.ppu with
          line := lineOf cum, rendered := decide (lineOf cum = s.ppu.line) && s.ppu.rendered } } := by
  by_cases hline : lineOf cum = s.ppu.line
  · simp only [ppuLine, hline, decide_true, Bool.true_and]
    rfl
  · have hrendered : (decide (lineOf cum = s.ppu.line) && s.ppu.rendered) = false := by simp [hline]
    rw [hrendered, ppuLine, if_neg hline, lineStart_only]
    rfl

/-- The line update requests bit 1 where a line starts with LY = LYC. -/
theorem busRead_ppuLine_IF :
    (ppuLine cum s).busRead Params.addrIF =
      s.busRead Params.addrIF |||
        (if lineOf cum ≠ s.ppu.line ∧ (ppuLine cum s).busRead Params.addrLY = s.busRead Params.addrLYC then 2 else 0) := by
  have hly : Params.addrLY ≠ Params.addrSTAT := by decide
  have hif : Params.addrIF ≠ Params.addrSTAT := by decide
  simp only [ppuLine, setStatPhase, busRead_busPoke_ne _ _ hly, busRead_busPoke_ne _ _ hif]
  by_cases hline : lineOf cum = s.ppu.line
  · simp [hline]
  · simp only [ne_eq, hline, not_false_eq_true, true_and]
    exact busRead_lineStart_IF _ s

/-- The line update writes no byte but IF, STAT and LY. -/
theorem busRead_ppuLine_ne {a : Nat} (hif : a ≠ Params.addrIF) (hstat : a ≠ Params.addrSTAT) (hly : a ≠ Params.addrLY) :
    (ppuLine cum s).busRead a = s.busRead a := by
  rw [ppuLine, setStatPhase, busRead_busPoke_ne _ _ hstat]
  split
  · rfl
  · rw [busRead_lineStart _ s hif, if_neg hly]

end

/-- H-blank is the rest of a visible line after the pixel transfer (R1343). -/
theorem phaseOf_eq_zero_iff (ln pos : Nat) : phaseOf ln pos = 0 ↔ ln < 144 ∧ 228 ≤ pos := by
  have hoam : Params.oamEnd = 76 := rfl
  have hxfer : Params.xferEnd = 228 := rfl
  have hlines : Params.linesVisible = 144 := rfl
  by_cases hvisible : Params.linesVisible ≤ ln
  · rw [phaseOf, if_pos hvisible]
    exact iff_of_false (by decide) (by omega)
  by_cases hsearch : pos < Params.oamEnd
  · rw [phaseOf, if_neg hvisible, if_pos hsearch]
    exact iff_of_false (by decide) (by omega)
  by_cases htransfer : pos < Params.xferEnd
  · rw [phaseOf, if_neg hvisible, if_neg hsearch, if_pos htransfer]
    exact iff_of_false (by decide) (by omega)
  · rw [phaseOf, if_neg hvisible, if_neg hsearch, if_neg htransfer]
    exact iff_of_true rfl (by omega)

/-! ## Rendering -/

/-- A shade looks at the bus only (R206, R1346). -/
theorem pixel_congr {s t : State} (h : t.bus = s.bus) (ly x : Nat) : pixel t ly x = pixel s ly x := by
  have hread : t.busRead = s.busRead := funext fun a => by rw [State.busRead, h]; rfl
  unfold pixel
  rw [hread]

/-- The columns rendered so far hold their shades, and every other cell is kept (R1346). -/
theorem read_renderColumns (s : State) (ly : Nat) {n : Nat} (hn : n ≤ 256) (fb : Store 2) (k : Nat) :
    Store.read Config.shadeUnlisted (renderColumns s ly n fb) k =
      if k / 256 = ly ∧ k % 256 < n then pixel s ly (k % 256) else Store.read Config.shadeUnlisted fb k := by
  induction n with
  | zero => simp [renderColumns]
  | succ n ih =>
    simp only [renderColumns, Store.read_write, Params.fbW]
    rw [ih (by omega)]
    by_cases hcell : k = ly * 256 + n
    · have hdiv : k / 256 = ly := by omega
      have hmod : k % 256 = n := by omega
      simp [hcell, show (ly * 256 + n) / 256 = ly by omega, show (ly * 256 + n) % 256 = n by omega]
    · rw [if_neg hcell]
      have hiff : (k / 256 = ly ∧ k % 256 < n + 1) ↔ (k / 256 = ly ∧ k % 256 < n) := by omega
      simp only [hiff]

/-- H-blank writes the render flag and the active buffer only (R1345). -/
theorem hblank_eq (mode : BitVec 2) (s : State) :
    hblank mode s =
      { s with
        ppu := { s.ppu with
          rendered := decide (mode = 0) || s.ppu.rendered
          fbActive :=
            if decide (mode = 0) && !s.ppu.rendered then
              renderColumns s (s.busRead Params.addrLY).toNat Params.screenW s.ppu.fbActive
            else s.ppu.fbActive } } := by
  by_cases hdraws : mode = 0 ∧ s.ppu.rendered = false
  · obtain ⟨rfl, hrendered⟩ := hdraws
    rw [hblank, if_pos ⟨rfl, hrendered⟩, hrendered]
    rfl
  · have hskip : (decide (mode = 0) && !s.ppu.rendered) = false := by simpa using hdraws
    have hkept : (decide (mode = 0) || s.ppu.rendered) = s.ppu.rendered := by
      cases hr : s.ppu.rendered <;> simp_all
    rw [hblank, if_neg hdraws, hskip, hkept]
    rfl

/-! ## The V-blank edge -/

/-- The edge of a frame: the count is past the boundary and no edge was seen (R1347). -/
def vblankStarts (cum : Nat) (s : State) : Bool := decide (Params.vblankStart ≤ cum) && !s.ppu.vblankFired

/-- The edge looks at the PPU's edge flag only. -/
theorem vblankStarts_congr {s t : State} (cum : Nat) (h : s.ppu.vblankFired = t.ppu.vblankFired) :
    vblankStarts cum s = vblankStarts cum t := by
  rw [vblankStarts, h]
  rfl

/-- The edge exchanges the buffers; the edge flag says whether the count is past the boundary (R1347). -/
theorem vblankEdge_eq (cum : Nat) (s : State) :
    vblankEdge cum s =
      { (if vblankStarts cum s then icFire 0 s else s) with
        ppu := { s.ppu with
          vblankFired := decide (Params.vblankStart ≤ cum)
          fbActive := if vblankStarts cum s then s.ppu.fbPresented else s.ppu.fbActive
          fbPresented := if vblankStarts cum s then s.ppu.fbActive else s.ppu.fbPresented } } := by
  by_cases hcum : Params.vblankStart ≤ cum
  · cases hfired : s.ppu.vblankFired with
    | true =>
      have hno : vblankStarts cum s = false := by simp [vblankStarts, hfired]
      have hkept : decide (Params.vblankStart ≤ cum) = s.ppu.vblankFired := by rw [hfired, decide_eq_true hcum]
      rw [vblankEdge, if_pos hcum, if_pos hfired, hno, hkept]
      rfl
    | false =>
      have hyes : vblankStarts cum s = true := by simp [vblankStarts, hfired, hcum]
      rw [vblankEdge, if_pos hcum, if_neg (Bool.eq_false_iff.mp hfired), hyes, decide_eq_true hcum]
      rfl
  · have hno : vblankStarts cum s = false := by simp [vblankStarts, hcum]
    rw [vblankEdge, if_neg hcum, hno, decide_eq_false hcum]
    rfl

/-- The edge writes bus bytes and the PPU's own state only. -/
theorem vblankEdge_only (cum : Nat) (s : State) :
    vblankEdge cum s = { s with bus := (vblankEdge cum s).bus, ppu := (vblankEdge cum s).ppu } := by
  rw [vblankEdge_eq]
  cases vblankStarts cum s <;> rfl

/-- The edge requests bit 0 (R1347). -/
theorem busRead_vblankEdge_IF (cum : Nat) (s : State) :
    (vblankEdge cum s).busRead Params.addrIF = s.busRead Params.addrIF ||| (if vblankStarts cum s then 1 else 0) := by
  rw [vblankEdge_eq]
  split
  · exact busRead_busPoke_same ..
  · exact BitVec.or_zero.symm

/-- Without the edge no bus byte changes. -/
theorem vblankEdge_bus {cum : Nat} {s : State} (h : vblankStarts cum s = false) : (vblankEdge cum s).bus = s.bus := by
  rw [vblankEdge_eq, if_neg (Bool.eq_false_iff.mp h)]

/-! ## The whole step -/

/-- Whether a PPU step renders its line. -/
def ppuDraws (cum : Nat) (s : State) : Bool :=
  decide (phaseOf (lineOf cum) (cum - lineOf cum * Params.lineCycles) = 0) && !(ppuLine cum s).ppu.rendered

/-- The edge stands past the visible lines, so no step both renders and exchanges the buffers. -/
theorem ppuDraws_of_vblankStarts {cum : Nat} {s u : State} (h : vblankStarts cum u = true) : ppuDraws cum s = false := by
  have hcum : 65664 ≤ cum := of_decide_eq_true (Bool.and_eq_true_iff.mp h).1
  have hline : 144 ≤ lineOf cum := by
    simp only [lineOf, Params.lineCycles, Params.linesTotal]
    omega
  refine Bool.and_eq_false_imp.mpr fun hphase => ?_
  have hvisible := ((phaseOf_eq_zero_iff _ _).mp (of_decide_eq_true hphase)).1
  omega

/-- The row that a PPU step renders into the active buffer (R1346). -/
def ppuRow (cum : Nat) (s : State) : Store 2 :=
  renderColumns (ppuLine cum s) ((ppuLine cum s).busRead Params.addrLY).toNat Params.screenW s.ppu.fbActive

/-- What the rendering leaves: the render flag, and the row where the line is drawn. -/
theorem hblank_ppuLine (cum : Nat) (s : State) :
    hblank (phaseOf (lineOf cum) (cum - lineOf cum * Params.lineCycles)) (ppuLine cum s) =
      { ppuLine cum s with
        ppu := { (ppuLine cum s).ppu with
          rendered :=
            decide (phaseOf (lineOf cum) (cum - lineOf cum * Params.lineCycles) = 0) || (ppuLine cum s).ppu.rendered
          fbActive := if ppuDraws cum s then ppuRow cum s else s.ppu.fbActive } } := by
  have hactive : (ppuLine cum s).ppu.fbActive = s.ppu.fbActive := by rw [ppuLine_only]
  rw [hblank_eq, hactive]
  rfl

/-- The PPU's own state after a step (R1340 to R1347). -/
theorem ppuStep_ppu (cum : Nat) (s : State) :
    (ppuStep cum s).ppu =
      { line := lineOf cum
        rendered :=
          decide (phaseOf (lineOf cum) (cum - lineOf cum * Params.lineCycles) = 0) ||
            (decide (lineOf cum = s.ppu.line) && s.ppu.rendered)
        vblankFired := decide (Params.vblankStart ≤ cum)
        fbActive := if vblankStarts cum s then s.ppu.fbPresented else if ppuDraws cum s then ppuRow cum s else s.ppu.fbActive
        fbPresented := if vblankStarts cum s then s.ppu.fbActive else s.ppu.fbPresented } := by
  have hline : (ppuLine cum s).ppu = { s.ppu with
      line := lineOf cum, rendered := decide (lineOf cum = s.ppu.line) && s.ppu.rendered } := by
    rw [ppuLine_only]
  rw [ppuStep_eq, hblank_ppuLine, vblankEdge_eq, vblankStarts_congr (t := s) cum (by rw [hline])]
  by_cases hedge : vblankStarts cum s = true
  · simp only [if_pos hedge, ppuDraws_of_vblankStarts (s := s) hedge, hline]
    rfl
  · simp only [if_neg hedge, hline]

/-- A PPU step writes bus bytes and the PPU's own state only (R1340). -/
theorem ppuStep_only (cum : Nat) (s : State) :
    ppuStep cum s = { s with bus := (ppuStep cum s).bus, ppu := (ppuStep cum s).ppu } := by
  rw [ppuStep_eq, vblankEdge_only, hblank_eq, ppuLine_only]

/-- The two requests of a PPU step (R1342, R1347). -/
theorem busRead_ppuStep_IF (cum : Nat) (s : State) :
    (ppuStep cum s).busRead Params.addrIF =
      (s.busRead Params.addrIF |||
        (if lineOf cum ≠ s.ppu.line ∧ (ppuStep cum s).busRead Params.addrLY = s.busRead Params.addrLYC then 2 else 0)) |||
        (if vblankStarts cum s then 1 else 0) := by
  have hly : (ppuStep cum s).busRead Params.addrLY = (ppuLine cum s).busRead Params.addrLY := by
    rw [ppuStep_eq, busRead_vblankEdge_ne _ _ (by decide), busRead_hblank]
  have hedge : vblankStarts cum (hblank (phaseOf (lineOf cum) (cum - lineOf cum * Params.lineCycles)) (ppuLine cum s)) =
      vblankStarts cum s :=
    vblankStarts_congr cum (by rw [hblank_ppuLine, ppuLine_only])
  rw [hly, ppuStep_eq, busRead_vblankEdge_IF, busRead_hblank, busRead_ppuLine_IF, hedge]

/-- A PPU step writes no bus byte but IF, STAT and LY. -/
theorem busRead_ppuStep_ne (cum : Nat) (s : State) {a : Nat} (hif : a ≠ Params.addrIF) (hstat : a ≠ Params.addrSTAT)
    (hly : a ≠ Params.addrLY) : (ppuStep cum s).busRead a = s.busRead a := by
  rw [ppuStep_eq, busRead_vblankEdge_ne _ _ hif, busRead_hblank, busRead_ppuLine_ne _ _ hif hstat hly]

/-- A step without the edge keeps the bytes of its line update. -/
theorem ppuStep_bus {cum : Nat} {s : State} (h : vblankStarts cum s = false) : (ppuStep cum s).bus = (ppuLine cum s).bus := by
  have hno : vblankStarts cum (hblank (phaseOf (lineOf cum) (cum - lineOf cum * Params.lineCycles)) (ppuLine cum s)) = false := by
    rw [← h]
    exact vblankStarts_congr cum (by rw [hblank_ppuLine, ppuLine_only])
  rw [ppuStep_eq, vblankEdge_bus hno, hblank_ppuLine]

/-- A line is rendered in H-blank, once (R1343, R1345). -/
theorem ppuDraws_eq (cum : Nat) (s : State) :
    ppuDraws cum s =
      (decide (lineOf cum < 144 ∧ 228 ≤ cum - lineOf cum * 456) && (decide (lineOf cum ≠ s.ppu.line) || !s.ppu.rendered)) := by
  have hphase := phaseOf_eq_zero_iff (lineOf cum) (cum - lineOf cum * Params.lineCycles)
  rw [ppuDraws, ppuLine_only]
  simp only [hphase, Bool.not_and, decide_not]
  rfl

/-- A rendering step leaves the row of line LY in the active buffer (R1345, R1346). -/
theorem read_ppuStep_fbActive {cum : Nat} {s : State} (h : ppuDraws cum s = true) (k : Nat) :
    Store.read Config.shadeUnlisted (ppuStep cum s).ppu.fbActive k =
      if k / 256 = ((ppuStep cum s).busRead Params.addrLY).toNat ∧ k % 256 < 160 then
        pixel (ppuStep cum s) ((ppuStep cum s).busRead Params.addrLY).toNat (k % 256)
      else Store.read Config.shadeUnlisted s.ppu.fbActive k := by
  have hedge : vblankStarts cum s = false := by
    by_contra hstarts
    rw [ppuDraws_of_vblankStarts (Bool.eq_true_of_not_eq_false hstarts)] at h
    exact Bool.false_ne_true h
  have hbus := ppuStep_bus hedge
  have hly : (ppuStep cum s).busRead Params.addrLY = (ppuLine cum s).busRead Params.addrLY := by
    rw [State.busRead, hbus]
    rfl
  rw [ppuStep_ppu, hly, pixel_congr hbus]
  simp only [hedge, h, Bool.false_eq_true, if_false, if_true]
  exact read_renderColumns _ _ (by decide) _ _

end Sys2Proof.Machine
end

section
namespace Sys2Proof
open Machine

/-- Settles O55: the two requests, the buffers and the frame of `ppuStep`, in the spec's numerals. -/
theorem ppuRequestsAndBuffers : Obligations.PpuRequestsAndBuffers := by
  unfold Obligations.PpuRequestsAndBuffers
  rintro cum _ s _ _ _ draws rfl rfl rfl rfl hdraws
  change draws =
    (decide (lineOf cum < 144 ∧ 228 ≤ cum - lineOf cum * 456) && (decide (lineOf cum ≠ s.ppu.line) || !s.ppu.rendered)) at hdraws
  have hppu := ppuStep_ppu cum s
  obtain rfl : draws = ppuDraws cum s := hdraws.trans (ppuDraws_eq cum s).symm
  refine ⟨?_, fun a ha => ?_, ?_, ?_, fun hedge => ?_, fun hedge => ?_, fun hedge hno => ?_, fun h k => read_ppuStep_fbActive h k,
    ppuStep_only cum s⟩
  · have hreq := busRead_ppuStep_IF cum s
    simp only [decide_eq_true_eq]
    exact hreq
  · simp only [List.mem_cons, List.not_mem_nil, or_false, not_or] at ha
    obtain ⟨hif, hstat, hly⟩ := ha
    exact busRead_ppuStep_ne cum s hif hstat hly
  · rw [hppu]
    rfl
  · rw [hppu, ppuDraws, ppuLine_only]
    simp only [decide_not, Bool.not_not]
    have hor : ∀ p q : Bool, (p || q) = (p && !q || q) := by decide
    exact hor _ _
  · rw [hppu]
    exact ⟨if_pos hedge, if_pos hedge⟩
  · rw [hppu]
    exact if_neg (Bool.eq_false_iff.mp hedge)
  · rw [hppu]
    exact (if_neg (Bool.eq_false_iff.mp hedge)).trans (if_neg (Bool.eq_false_iff.mp hno))

end Sys2Proof
end

section
/-! SUPPORT. The family 40_execution_loop.md: what a CPU step, the devices, the dispatch and the end of a step can do, each said once
(R400 to R410, R1310 to R1321), and O51 and O53, assembled from them. -/

namespace Sys2Proof.Machine

open Sys2Proof

/-! ## The CPU step -/

/-- The entry that a lookup finds is within the bound on the cycles (R410). -/
theorem fetchEntry_withinBound {s : State} {p : Word} {o : Fetched} (h : fetchEntry s p = .ok o) : o.entry.withinBound = true := by
  unfold fetchEntry at h
  split at h
  · cases h
  split at h
  · split at h
    · cases h
    split at h <;> cases h
    exact cbEntry_withinBound _
  · split at h <;> cases h
    next he => exact withinBound_of_opCell he

/-- The unimplemented path writes the diagnostic flag, PC and the cycles (R407). -/
theorem unimplemented_eq_next {len cost : Nat} {s t : State} (h : unimplemented len cost s = .next t) :
    ∃ pc, t = { s with unimplementedSeen := true, pc := pc, stepCycles := cost } := by
  obtain ⟨u, hu, ht⟩ := andThen_eq_next.mp h
  obtain ⟨-, rfl⟩ := assignPC_eq_next.mp hu
  cases ht
  exact ⟨_, rfl⟩

/-- A running CPU executes an instruction, or takes the unimplemented path (R401, R407). -/
theorem cpuRun_eq_next {s u : State} (h : cpuRun s = .next u) :
    (∃ i, exec i s = .next u) ∨
      ∃ pc cost, cost ≤ 24 ∧ u = { s with unimplementedSeen := true, pc := pc, stepCycles := cost } := by
  unfold cpuRun at h
  split at h
  · exact (raise_ne_next _ _ _ h).elim
  next o ho =>
  split at h
  · exact (raise_ne_next _ _ _ h).elim
  split at h
  · obtain ⟨pc, hu⟩ := unimplemented_eq_next h
    exact .inr ⟨pc, _, le_of_withinBound (fetchEntry_withinBound ho) (.inl rfl), hu⟩
  split at h
  · exact (raise_ne_next _ _ _ h).elim
  · exact .inl ⟨_, h⟩

/-- A CPU step idles when halted, executes an instruction, or takes the unimplemented path (R401, R402, R407). -/
theorem cpuStep_eq_next {s u : State} (h : cpuStep s = .next u) :
    (s.halted = true ∧ u = { s with stepCycles := 4 }) ∨ (s.halted = false ∧ ∃ i, exec i s = .next u) ∨
      ∃ pc cost, cost ≤ 24 ∧ u = { s with unimplementedSeen := true, pc := pc, stepCycles := cost } := by
  unfold cpuStep at h
  split at h
  · next hh =>
    cases h
    exact .inl ⟨hh, rfl⟩
  · next hh => exact .inr ((cpuRun_eq_next h).imp_left fun hi => ⟨Bool.eq_false_iff.mpr hh, hi⟩)

/-- A CPU step costs at most 24 cycles (R410). -/
theorem cpuStep_stepCycles {s u : State} (h : cpuStep s = .next u) : u.stepCycles ≤ 24 := by
  obtain ⟨-, rfl⟩ | ⟨-, i, hi⟩ | ⟨pc, cost, hcost, rfl⟩ := cpuStep_eq_next h
  · exact (by decide : 4 ≤ 24)
  · obtain ⟨e, he, hcost⟩ := exec_stepCycles hi
    exact le_of_withinBound (tableEntry_withinBound he) hcost
  · exact hcost

/-- A CPU step stores bytes and leaves the PPU, the frame's cycle count, the cartridge and the fault record. -/
theorem cpuStep_memory {s u : State} (h : cpuStep s = .next u) :
    ∃ l, u.bus = (s.storeAll l).bus ∧ u.bank = (s.storeAll l).bank ∧ u.ppu = s.ppu ∧ u.frameCycles = s.frameCycles ∧
      u.cart = s.cart ∧ u.fault = s.fault := by
  obtain ⟨-, rfl⟩ | ⟨-, i, hi⟩ | ⟨pc, cost, -, rfl⟩ := cpuStep_eq_next h
  · exact ⟨[], rfl, rfl, rfl, rfl, rfl, rfl⟩
  · obtain ⟨l, -, hbus, hbank, hppu, hframe, hcart, hfault, -⟩ := exec_memory hi
    exact ⟨l, hbus, hbank, hppu, hframe, hcart, hfault⟩
  · exact ⟨[], rfl, rfl, rfl, rfl, rfl, rfl⟩

/-- A CPU step keeps that a halted CPU has IME set (R1202). -/
theorem cpuStep_halted_ime {s u : State} (h : cpuStep s = .next u) (hs : s.halted = true → s.ime = true) (hu : u.halted = true) :
    u.ime = true := by
  obtain ⟨-, rfl⟩ | ⟨hrunning, i, hi⟩ | ⟨pc, cost, -, rfl⟩ := cpuStep_eq_next h
  · exact hs hu
  · have heffect := exec_effect hi
    obtain ⟨hhalt, hime, -⟩ := heffect.halted (by rw [hu, hrunning]; decide)
    have hkept : u.ime = s.ime := by
      by_contra hne
      have hmem := heffect.ime hne
      rw [hhalt] at hmem
      simp at hmem
    exact hkept.trans hime
  · exact hs hu

/-! ## The devices -/

/-- The host's requests write bus bytes and use up an input (R1315). -/
theorem externalRequests_only (s : State) :
    externalRequests s = { s with bus := (externalRequests s).bus, extReq := (externalRequests s).extReq } := by
  cases hreq : s.extReq with
  | nil =>
    rw [externalRequests_of_nil hreq]
  | cons req rest =>
    rw [externalRequests_of_cons hreq]
    have hext : (fireRequests req [0, 1, 2, 3, 4] { s with extReq := rest }).extReq = rest := by rw [fireRequests_bus]
    rw [hext]
    exact fireRequests_bus ..

/-- The host's requests write no byte but IF. -/
theorem busRead_externalRequests_ne (s : State) {a : Nat} (h : a ≠ Params.addrIF) :
    (externalRequests s).busRead a = s.busRead a := by
  cases hreq : s.extReq with
  | nil => rw [externalRequests_of_nil hreq]
  | cons req rest =>
    rw [externalRequests_of_cons hreq]
    exact busRead_fireRequests_ne _ _ _ h

/-- The devices write bus bytes, the PPU's own state, the cycle count and the host's inputs (R400). -/
theorem devices_only (s : State) :
    devices s =
      { s with
        bus := (devices s).bus
        ppu := (ppuStep (s.frameCycles + s.stepCycles) (accumulate s)).ppu
        frameCycles := s.frameCycles + s.stepCycles
        extReq := (devices s).extReq } := by
  have h : devices s =
      { ppuStep (s.frameCycles + s.stepCycles) (accumulate s) with bus := (devices s).bus, extReq := (devices s).extReq } :=
    externalRequests_only _
  generalize devices s = d at h ⊢
  rw [ppuStep_only] at h
  exact h

/-- The devices write IF, and what the PPU step writes. -/
theorem busRead_devices_ne (s : State) {a : Nat} (h : a ≠ Params.addrIF) :
    (devices s).busRead a = (ppuStep (s.frameCycles + s.stepCycles) (accumulate s)).busRead a :=
  busRead_externalRequests_ne _ h

/-! ## The dispatch and the end of the step -/

/-- A delivery stores PC, clears halted and IME and goes to its vector (R1320). -/
theorem takeInterrupt_eq_next {s t : State} {vector : Word} (h : takeInterrupt vector s = .next t) :
    t = s ∨ s.ime = true ∧ ∃ l, t = { s.storeAll l with halted := false, ime := false, sp := s.sp - 2, pc := vector } := by
  by_cases hime : s.ime = true
  · rw [takeInterrupt_unmasked vector hime] at h
    obtain ⟨u, hu, ht⟩ := andThen_eq_next.mp h
    obtain rfl := push16_eq_next hu
    rw [assignPC_word, memWrite_setHaltedIme s, memWrite_setHaltedIme (s.memWrite _ _)] at ht
    cases ht
    exact .inr ⟨hime, [(s.sp - 1, hiByte s.pc), (s.sp - 2, loByte s.pc)], rfl⟩
  · rw [takeInterrupt_masked vector (Bool.eq_false_iff.mpr hime)] at h
    cases h
    exact .inl rfl

/-- A dispatch delivers one of the five requests, or does nothing (R1312, R1321). -/
theorem icDispatch_eq_next {s t : State} (h : icDispatch s = .next t) :
    t = s ∨ s.ime = true ∧ ∃ (k : Fin 5) (l : List (Word × Byte)),
      t = { s.storeAll l with halted := false, ime := false, sp := s.sp - 2, pc := Params.vector k } := by
  unfold icDispatch at h
  split at h
  · split at h
    · next k _ =>
      refine (takeInterrupt_eq_next h).imp_right fun ⟨hime, l, ht⟩ => ⟨hime, k, l, ht⟩
    · cases h
      exact .inl rfl
  · cases h
    exact .inl rfl

/-- A dispatch stores bytes and leaves the PPU, the cycle counts, the cartridge and the fault record. -/
theorem icDispatch_memory {s t : State} (h : icDispatch s = .next t) :
    ∃ l, t.bus = (s.storeAll l).bus ∧ t.bank = (s.storeAll l).bank ∧ t.ppu = s.ppu ∧ t.frameCycles = s.frameCycles ∧
      t.stepCycles = s.stepCycles ∧ t.cart = s.cart ∧ t.fault = s.fault := by
  obtain rfl | ⟨-, k, l, rfl⟩ := icDispatch_eq_next h
  · exact ⟨[], rfl, rfl, rfl, rfl, rfl, rfl, rfl⟩
  · refine ⟨l, rfl, rfl, ?_⟩
    rw [storeAll_only]
    exact ⟨rfl, rfl, rfl, rfl, rfl⟩

/-- The end of a step clears IF and takes a whole frame off the cycle count (R1313, R410). -/
theorem frameLoopCheck_eq (s : State) :
    frameLoopCheck s =
      { s with frameCycles := if 70224 ≤ s.frameCycles then s.frameCycles - 70224 else s.frameCycles } := by
  have hframe : Params.frameCycles = 70224 := rfl
  rw [frameLoopCheck, hframe]
  split <;> rfl

/-- The frame loop leaves the bus. -/
theorem busRead_frameLoopCheck (s : State) (a : Nat) : (frameLoopCheck s).busRead a = s.busRead a := by
  rw [frameLoopCheck_eq]
  rfl

/-! ## The whole step -/

/-- A step is a CPU step, the devices, the dispatch and the end of the step (R400). -/
theorem step_eq_next {s t : State} (h : step s = .next t) :
    s.fault = none ∧ ∃ u v, cpuStep s = .next u ∧ icDispatch (devices u) = .next v ∧ t = frameLoopCheck (icClearAll v) := by
  unfold step systemStep at h
  split at h
  · exact (raise_ne_next _ _ _ h).elim
  next hfault =>
  obtain ⟨u, hu, hrest⟩ := andThen_eq_next.mp h
  obtain ⟨v, hv, ht⟩ := andThen_eq_next.mp hrest
  cases ht
  exact ⟨hfault, u, v, hu, hv, rfl⟩

/-- Settles O51, from what the end of a step does and what a CPU step costs. -/
theorem endOfStepBookkeeping : Obligations.EndOfStepBookkeeping := by
  unfold Obligations.EndOfStepBookkeeping
  intro s t h
  obtain ⟨-, u, v, hu, hv, rfl⟩ := step_eq_next h
  obtain ⟨-, -, -, -, hframe, -⟩ := cpuStep_memory hu
  obtain ⟨-, -, -, -, hframe', hcycles, -⟩ := icDispatch_memory hv
  have hstep : v.stepCycles = u.stepCycles := hcycles.trans (by rw [devices_only])
  have hsum : v.frameCycles = s.frameCycles + v.stepCycles := by
    rw [hframe', hstep, ← hframe]
    rw [devices_only]
  refine ⟨?_, ?_, ?_⟩
  · rw [busRead_frameLoopCheck]
    exact busRead_busPoke_same ..
  · rw [frameLoopCheck_eq]
    exact hstep.trans_le (cpuStep_stepCycles hu)
  · have hend (t : State) :
        (frameLoopCheck t).frameCycles = if 70224 ≤ t.frameCycles then t.frameCycles - 70224 else t.frameCycles := by
      rw [frameLoopCheck_eq]
    have hkept : (frameLoopCheck (icClearAll v)).stepCycles = v.stepCycles := by
      rw [frameLoopCheck_eq]
      rfl
    rw [hkept, ← hsum]
    exact hend (icClearAll v)

/-- Settles O53: a halted CPU step changes nothing, so the dispatch has delivered. -/
theorem haltEndsOnlyByDelivery : Obligations.HaltEndsOnlyByDelivery := by
  unfold Obligations.HaltEndsOnlyByDelivery
  intro s t h hs ht
  obtain ⟨-, u, v, hu, hv, rfl⟩ := step_eq_next h
  rw [cpuStep, if_pos hs] at hu
  cases hu
  rw [frameLoopCheck_eq] at ht ⊢
  obtain rfl | ⟨hime, k, l, rfl⟩ := icDispatch_eq_next hv
  · rw [devices_only] at ht
    exact absurd (hs.symm.trans ht) (by decide)
  · rw [devices_only, storeAll_only]
    rw [devices_only] at hime
    exact ⟨hime, rfl, rfl, rfl, rfl, k, vector_eq k⟩

end Sys2Proof.Machine
end

section
/-! SUPPORT. The invariant of a running machine, part by part: the canonical form of the storages, the bank registers, and the PPU in
step with the cycle count, each kept by every operation of a step, and O57, assembled from them. -/

namespace Sys2Proof.Machine

open Sys2Proof

/-! ## The canonical form of the storages -/

/-- The canonical form looks at the storages and the cartridge only. -/
theorem State.storesWf.congr {s t : State} (h : s.storesWf) (hbus : t.bus = s.bus) (hram : t.bank.ram = s.bank.ram)
    (hactive : t.ppu.fbActive = s.ppu.fbActive) (hpresented : t.ppu.fbPresented = s.ppu.fbPresented) (hcart : t.cart = s.cart) :
    t.storesWf := by
  unfold State.storesWf at h ⊢
  rwa [hbus, hram, hactive, hpresented, hcart]

section
variable {s : State} (h : s.storesWf)
include h

theorem State.storesWf.busPoke {addr : Nat} (haddr : addr < 0x10000) (v : Byte) : (s.busPoke addr v).storesWf := by
  obtain ⟨hbus, hrest⟩ := h
  exact ⟨Memory.wf_write haddr hbus, hrest⟩

theorem State.storesWf.dmaCopy {n : Nat} (hn : n ≤ Params.dmaLength) (src : Nat) : (dmaCopy src n s).storesWf := by
  induction n with
  | zero => exact h
  | succ n ih =>
    have hoam : Params.addrOAM + Params.dmaLength < 0x10000 := by decide
    exact (ih (by omega)).busPoke (by omega) _

theorem State.storesWf.busWrite {addr : Nat} (haddr : addr < 0x10000) (v : Byte) : (s.busWrite addr v).storesWf := by
  unfold State.busWrite
  split
  · exact h.busPoke (by decide) _
  split
  · exact h
  split
  · exact (h.busPoke (by decide) v).dmaCopy le_rfl _
  · exact h.busPoke haddr v

theorem State.storesWf.memWrite (addr : Word) (v : Byte) : (s.memWrite addr v).storesWf := by
  by_cases hlow : addr.toNat < 0x8000
  · obtain ⟨b, hb, hram⟩ := memWrite_below s v hlow
    rw [hb]
    exact h.congr rfl hram rfl rfl rfl
  by_cases hext : 0xA000 ≤ addr.toNat ∧ addr.toNat < 0xC000
  · rw [memWrite_extRam s v hext.1 hext.2]
    by_cases hreached : s.extRamReached addr.toNat = true
    · obtain ⟨-, hindex⟩ := (extRamReached_iff s _).mp hreached
      obtain ⟨hbus, hram, hrest⟩ := h
      rw [extRamWrite_reached v hreached]
      exact ⟨hbus, Memory.wf_write hindex hram, hrest⟩
    · rw [extRamWrite_unreached v hreached]
      exact h
  · rw [memWrite_bus s v (by omega)]
    exact h.busWrite addr.isLt v

theorem State.storesWf.icFire (k : Fin 5) : (icFire k s).storesWf := h.busPoke (by decide) _

theorem State.storesWf.externalRequests : (externalRequests s).storesWf := by
  cases hreq : s.extReq with
  | nil => rwa [externalRequests_of_nil hreq]
  | cons req rest =>
    rw [externalRequests_of_cons hreq]
    have hqueue : State.storesWf { s with extReq := rest } := h
    generalize { s with extReq := rest } = u at hqueue
    generalize [0, 1, 2, 3, (4 : Fin 5)] = ks
    induction ks generalizing u with
    | nil => exact hqueue
    | cons k ks ih =>
      rw [fireRequests_cons]
      refine ih _ ?_
      split
      · exact hqueue.icFire k
      · exact hqueue

theorem State.storesWf.lineStart (ln : Nat) : (lineStart ln s).storesWf := by
  have hline : State.storesWf { s with ppu := { s.ppu with line := ln, rendered := false } } := h
  have hly := hline.busPoke (show Params.addrLY < 0x10000 by decide)
    (BitVec.ofNat 8 (((s.busRead Params.addrLY).toNat + 1) % Params.linesTotal))
  unfold Machine.lineStart
  simp only []
  split
  · exact hly.icFire 1
  · exact hly

end

/-- A row of 160 columns lies inside the framebuffer. -/
theorem wf_renderColumns (s : State) (ly : Byte) {n : Nat} (hn : n ≤ Params.screenW) {fb : Store 2}
    (hfb : Store.wf Config.shadeUnlisted 0x10000 fb) :
    Store.wf Config.shadeUnlisted 0x10000 (renderColumns s ly.toNat n fb) := by
  induction n with
  | zero => exact hfb
  | succ n ih =>
    have hw : Params.screenW = 160 := rfl
    have hfbw : Params.fbW = 256 := rfl
    have hly := ly.isLt
    exact Store.wf_write (by rw [hfbw]; omega) (ih (by omega))

section
variable {s : State} (h : s.storesWf)
include h

theorem State.storesWf.hblank (mode : BitVec 2) : (hblank mode s).storesWf := by
  unfold Machine.hblank
  split
  · obtain ⟨hbus, hram, hactive, hrest⟩ := h
    exact ⟨hbus, hram, wf_renderColumns s _ le_rfl hactive, hrest⟩
  · exact h

theorem State.storesWf.vblankEdge (cum : Nat) : (vblankEdge cum s).storesWf := by
  unfold Machine.vblankEdge
  split
  · split
    · exact h
    · obtain ⟨hbus, hram, hactive, hpresented, hrom⟩ := h.icFire 0
      exact ⟨hbus, hram, hpresented, hactive, hrom⟩
  · exact h

theorem State.storesWf.ppuStep (cum : Nat) : (ppuStep cum s).storesWf := by
  have hline : State.storesWf (if lineOf cum = s.ppu.line then s else Machine.lineStart (lineOf cum) s) := by
    split
    · exact h
    · exact h.lineStart _
  have hphase : (ppuLine cum s).storesWf := hline.busPoke (by decide) _
  exact (hphase.hblank _).vblankEdge cum

theorem State.storesWf.devices : (devices s).storesWf := by
  have hcount : (accumulate s).storesWf := h
  exact (hcount.ppuStep _).externalRequests

end

/-! ## The bank registers -/

/-- The invariant of the bank registers, in numbers. -/
theorem State.bankLegal_iff {s : State} :
    s.bankLegal ↔ s.bank.romBank.toNat % 32 ≠ 0 ∧ (s.bank.bankingMode = .romBanking → s.bank.ramBank = 0) := by
  have hlow : s.bank.romBank.extractLsb' 0 5 = 0 ↔ s.bank.romBank.toNat % 32 = 0 := by simp [← BitVec.toNat_inj]
  rw [State.bankLegal, Ne, hlow]

/-- A write keeps the bank registers legal: R231 remaps 0, R232 keeps the low field, R233 zeroes the RAM bank. -/
theorem State.bankLegal.memWrite {s : State} (h : s.bankLegal) (addr : Word) (v : Byte) : (s.memWrite addr v).bankLegal := by
  obtain ⟨hrom, hram⟩ := State.bankLegal_iff.mp h
  rw [State.bankLegal_iff]
  by_cases h1 : addr.toNat < 0x2000
  · rw [memWrite_ramEnable s v h1]
    exact ⟨hrom, hram⟩
  by_cases h2 : addr.toNat < 0x4000
  · obtain ⟨n, hn, hval⟩ := romBankWrite_eq v s.bank
    have hlow : n.toNat % 32 ≠ 0 := by split at hval <;> omega
    rw [memWrite_romBank s v (by omega) h2, hn]
    exact ⟨hlow, hram⟩
  by_cases h3 : addr.toNat < 0x6000
  · rw [memWrite_bank2 s v (by omega) h3]
    cases hmode : s.bank.bankingMode with
    | romBanking =>
      obtain ⟨n, hn, hval⟩ := bank2Write_romBanking v hmode
      have hlow : n.toNat % 32 ≠ 0 := by omega
      rw [hn]
      exact ⟨hlow, hram⟩
    | ramBanking =>
      rw [bank2Write_ramBanking v hmode]
      exact ⟨hrom, fun hrom' => by cases hmode.symm.trans hrom'⟩
  by_cases h4 : addr.toNat < 0x8000
  · rw [memWrite_mode s v (by omega) h4, modeWrite_eq]
    split
    · exact ⟨hrom, fun _ => rfl⟩
    · exact ⟨hrom, nofun⟩
  · rw [bank_memWrite_above s v (by omega)]
    exact ⟨hrom, hram⟩

/-! ## Stores -/

/-- What every write keeps, a list of writes keeps. -/
theorem storeAll_induction {P : State → Prop} (hP : ∀ (s : State) (addr : Word) (v : Byte), P s → P (s.memWrite addr v))
    (l : List (Word × Byte)) {s : State} (h : P s) : P (s.storeAll l) := by
  induction l generalizing s with
  | nil => exact h
  | cons x l ih => exact ih (hP s x.1 x.2 h)

theorem State.storesWf.storeAll {s : State} (h : s.storesWf) (l : List (Word × Byte)) : (s.storeAll l).storesWf :=
  storeAll_induction (fun _ addr v hs => hs.memWrite addr v) l h

theorem State.bankLegal.storeAll {s : State} (h : s.bankLegal) (l : List (Word × Byte)) : (s.storeAll l).bankLegal :=
  storeAll_induction (fun _ addr v hs => hs.memWrite addr v) l h

/-- Stores never change LY (R204). -/
theorem storeAll_LY (l : List (Word × Byte)) (s : State) : (s.storeAll l).busRead Params.addrLY = s.busRead Params.addrLY :=
  storeAll_induction (P := fun t => t.busRead Params.addrLY = s.busRead Params.addrLY)
    (fun t addr v ht => (memWrite_LY addr v t).trans ht) l rfl

/-- Stores never change the phase bits of STAT (R203). -/
theorem storeAll_STAT_phase (l : List (Word × Byte)) (s : State) :
    ((s.storeAll l).busRead Params.addrSTAT).extractLsb' 0 2 = (s.busRead Params.addrSTAT).extractLsb' 0 2 :=
  storeAll_induction (P := fun t => (t.busRead Params.addrSTAT).extractLsb' 0 2 = (s.busRead Params.addrSTAT).extractLsb' 0 2)
    (fun t addr v ht => (memWrite_STAT_phase addr v t).trans ht) l rfl

/-! ## The PPU in step with the cycle count -/

/-- The phase bits of STAT (R1344). -/
def State.statPhase (s : State) : BitVec 2 := (s.busRead Params.addrSTAT).extractLsb' 0 2

/-- The line, LY, the phase, the render flag and the edge flag are those of the count `cum` (R1341 to R1347). -/
def State.ppuAt (s : State) (cum : Nat) : Prop :=
  (s.busRead Params.addrLY).toNat = lineOf cum ∧ s.ppu.line = lineOf cum ∧
    s.statPhase = phaseOf (lineOf cum) (cum - lineOf cum * Params.lineCycles) ∧
    (s.ppu.rendered = true ↔ s.statPhase = 0) ∧ (s.ppu.vblankFired = true ↔ Params.linesVisible ≤ s.ppu.line)

section
variable {s t : State} (hly : t.busRead Params.addrLY = s.busRead Params.addrLY) (hphase : t.statPhase = s.statPhase)
  (hppu : t.ppu = s.ppu)
include hly hphase hppu

theorem State.ppuAt.congr {cum : Nat} (h : s.ppuAt cum) : t.ppuAt cum := by
  unfold State.ppuAt at h ⊢
  rwa [hly, hphase, hppu]

theorem State.ppuInStep.congr (hframe : t.frameCycles = s.frameCycles) (h : s.ppuInStep) : t.ppuInStep := by
  unfold State.statPhase at hphase
  unfold State.ppuInStep at h ⊢
  rwa [hly, hphase, hppu, hframe]

end

/-- Between steps a frame is under way or has just ended. -/
theorem State.ppuInStep.line_cases {s : State} (h : s.ppuInStep) :
    (s.ppu.line = s.frameCycles / 456 ∧ s.frameCycles < 70224) ∨ (s.ppu.line = 153 ∧ s.frameCycles < 24) := by
  obtain ⟨-, ⟨hline, hframe, -⟩ | ⟨hline, hframe, -⟩, -⟩ := h
  · exact .inl ⟨hline, hframe⟩
  · exact .inr ⟨hline, hframe⟩

/-- The lines of a count are 0 to 153. -/
theorem lineOf_eq (cum : Nat) : lineOf cum = min (cum / 456) 153 := rfl

/-- A step of at most 24 cycles stays on the line or reaches the next one, line 0 after line 153 (R1342). -/
theorem lineOf_advance {line frame cost : Nat} (h : (line = frame / 456 ∧ frame < 70224) ∨ (line = 153 ∧ frame < 24))
    (hcost : cost ≤ 24) (hne : lineOf (frame + cost) ≠ line) : (line + 1) % 154 = lineOf (frame + cost) := by
  rw [lineOf_eq] at hne ⊢
  omega

/-- On a line the count only grows, so H-blank lasts to its end (R1343). -/
theorem phaseOf_hblank_stays {line pos pos' : Nat} (h : phaseOf line pos = 0) (hle : pos ≤ pos') : phaseOf line pos' = 0 := by
  rw [phaseOf_eq_zero_iff] at h ⊢
  omega

section
variable {s : State} {cum : Nat}

theorem statPhase_ppuStep (cum : Nat) (s : State) :
    (ppuStep cum s).statPhase = phaseOf (lineOf cum) (cum - lineOf cum * Params.lineCycles) := by
  rw [State.statPhase, busRead_ppuStep_STAT]
  exact BitVec.extractLsb'_append_eq_right

variable (h : s.ppuInStep) (hcost : s.stepCycles ≤ 24) (hcum : cum = s.frameCycles + s.stepCycles)
include h hcost hcum

/-- LY is the line again (R1342). -/
theorem LY_ppuStep : ((ppuStep cum (accumulate s)).busRead Params.addrLY).toNat = lineOf cum := by
  have hlines := h.line_cases
  obtain ⟨hly, -⟩ := h
  subst hcum
  rw [busRead_ppuStep_LY]
  change (if _ = s.ppu.line then s.busRead Params.addrLY else BitVec.ofNat 8 (((s.busRead Params.addrLY).toNat + 1) % 154)).toNat = _
  by_cases hline : lineOf (s.frameCycles + s.stepCycles) = s.ppu.line
  · rw [if_pos hline, hly, hline]
  · rw [if_neg hline, hly, ← lineOf_advance hlines hcost hline, BitVec.toNat_ofNat]
    omega

/-- A line that was rendered is still in H-blank (R1345). -/
theorem phase_of_rendered (hline : lineOf cum = s.ppu.line) (hrendered : s.ppu.rendered = true) :
    phaseOf (lineOf cum) (cum - lineOf cum * Params.lineCycles) = 0 := by
  obtain ⟨-, hframe, hphase, -⟩ := h
  have hzero := hphase.mp hrendered
  obtain ⟨hold, -, hstat⟩ | ⟨-, -, hstat⟩ := hframe
  · rw [hline]
    refine phaseOf_hblank_stays (hstat.symm.trans hzero) ?_
    have hcycles : Params.lineCycles = 456 := rfl
    rw [hcycles] at hold ⊢
    omega
  · exact absurd (hstat.symm.trans hzero) (by decide)

/-- A PPU step after at most 24 cycles brings the PPU to the new count. -/
theorem ppuStep_ppuAt : (ppuStep cum (accumulate s)).ppuAt cum := by
  refine ⟨LY_ppuStep h hcost hcum, ppuStep_line cum _, statPhase_ppuStep cum _, ?_, ?_⟩
  · rw [statPhase_ppuStep, ppuStep_ppu]
    simp only [Bool.or_eq_true, Bool.and_eq_true, decide_eq_true_eq, or_iff_left_iff_imp]
    exact fun ⟨hline, hrendered⟩ => phase_of_rendered h hcost hcum hline hrendered
  · have hstart : Params.vblankStart = 65664 := rfl
    have hvisible : Params.linesVisible = 144 := rfl
    rw [ppuStep_line, ppuStep_ppu, lineOf_eq, hstart, hvisible]
    simp only [decide_eq_true_eq]
    omega

end

/-- At the end of a step the frame goes on, or ends on line 153 with the overshoot kept (R410). -/
theorem frameLoopCheck_ppuInStep {s : State} (h : s.ppuAt s.frameCycles) (hframe : s.frameCycles < 70248) :
    (frameLoopCheck s).ppuInStep := by
  obtain ⟨hly, hline, hphase, hrest⟩ := h
  have hkept (a : Nat) : (frameLoopCheck s).busRead a = s.busRead a := busRead_frameLoopCheck s a
  have hcycles : Params.lineCycles = 456 := rfl
  rw [lineOf_eq] at hly hline hphase
  rw [hcycles] at hphase
  unfold State.ppuInStep
  rw [hkept, hkept, frameLoopCheck_eq]
  refine ⟨hly.trans hline.symm, ?_, hrest⟩
  by_cases hend : 70224 ≤ s.frameCycles
  · right
    have hlast : s.ppu.line = 153 := by omega
    have hmin : min (s.frameCycles / 456) 153 = 153 := by omega
    rw [hmin] at hphase
    simp only [if_pos hend]
    exact ⟨hlast, by omega, hphase.trans rfl⟩
  · left
    have hmin : min (s.frameCycles / 456) 153 = s.frameCycles / 456 := by omega
    have hpos : s.frameCycles - s.frameCycles / 456 * 456 = s.frameCycles % 456 := by omega
    rw [hmin] at hline hphase
    rw [hpos] at hphase
    simp only [if_neg hend, hline]
    exact ⟨rfl, Nat.lt_of_not_le hend, hphase⟩

/-! ## The whole step -/

/-- The devices after a CPU step bring the PPU to the new count. -/
theorem devices_ppuAt {s : State} (h : s.ppuInStep) (hcost : s.stepCycles ≤ 24) :
    (devices s).ppuAt (s.frameCycles + s.stepCycles) := by
  have hstat : (devices s).statPhase = (ppuStep (s.frameCycles + s.stepCycles) (accumulate s)).statPhase := by
    rw [State.statPhase, busRead_devices_ne s (by decide)]
    rfl
  refine .congr (busRead_devices_ne s (by decide)) hstat ?_ (ppuStep_ppuAt h hcost rfl)
  rw [devices_only]

/-- A CPU step keeps the PPU in step with the frame. -/
theorem cpuStep_ppuInStep {s u : State} (hu : cpuStep s = .next u) (h : s.ppuInStep) : u.ppuInStep := by
  obtain ⟨l, hbus, -, hppu, hframe, -⟩ := cpuStep_memory hu
  have hread (a : Nat) : u.busRead a = (s.storeAll l).busRead a := by
    rw [State.busRead, hbus]
    rfl
  refine .congr ((hread _).trans (storeAll_LY l s)) ?_ hppu hframe h
  rw [State.statPhase, hread]
  exact storeAll_STAT_phase l s

/-- A dispatch keeps the PPU at its count. -/
theorem icDispatch_ppuAt {s t : State} {cum : Nat} (ht : icDispatch s = .next t) (h : s.ppuAt cum) : t.ppuAt cum := by
  obtain ⟨l, hbus, -, hppu, -⟩ := icDispatch_memory ht
  have hread (a : Nat) : t.busRead a = (s.storeAll l).busRead a := by
    rw [State.busRead, hbus]
    rfl
  refine .congr ((hread _).trans (storeAll_LY l s)) ?_ hppu h
  rw [State.statPhase, hread]
  exact storeAll_STAT_phase l s

/-- Clearing IF keeps the PPU at its count. -/
theorem icClearAll_ppuAt {s : State} {cum : Nat} (h : s.ppuAt cum) : (icClearAll s).ppuAt cum := by
  refine .congr (busRead_busPoke_ne s 0 (by decide)) ?_ rfl h
  exact congrArg (BitVec.extractLsb' 0 2) (busRead_busPoke_ne s 0 (by decide))

section
variable {s t : State} (h : step s = .next t)
include h

theorem step_storesWf (hs : s.storesWf) : t.storesWf := by
  obtain ⟨-, u, v, hu, hv, rfl⟩ := step_eq_next h
  obtain ⟨l, hbus, hbank, hppu, -, hcart, -⟩ := cpuStep_memory hu
  obtain ⟨l', hbus', hbank', hppu', -, -, hcart', -⟩ := icDispatch_memory hv
  have hwfU : u.storesWf := by
    refine (hs.storeAll l).congr hbus (congrArg Bank.ram hbank) ?_ ?_ ?_
    · rw [hppu, storeAll_only]
    · rw [hppu, storeAll_only]
    · rw [hcart, storeAll_cart]
  have hwfV : v.storesWf := by
    refine (hwfU.devices.storeAll l').congr hbus' (congrArg Bank.ram hbank') ?_ ?_ ?_
    · rw [hppu', storeAll_only]
    · rw [hppu', storeAll_only]
    · rw [hcart', storeAll_cart]
  rw [frameLoopCheck_eq]
  exact hwfV.busPoke (addr := Params.addrIF) (by decide) 0

theorem step_bankLegal (hs : s.bankLegal) : t.bankLegal := by
  obtain ⟨-, u, v, hu, hv, rfl⟩ := step_eq_next h
  obtain ⟨l, -, hbank, -⟩ := cpuStep_memory hu
  obtain ⟨l', -, hbank', -⟩ := icDispatch_memory hv
  have hlegalU : u.bankLegal := by
    rw [State.bankLegal, hbank]
    exact hs.storeAll l
  have hlegalD : (devices u).bankLegal := by
    rw [devices_only]
    exact hlegalU
  have hlegalV : v.bankLegal := by
    rw [State.bankLegal, hbank']
    exact hlegalD.storeAll l'
  rw [frameLoopCheck_eq]
  exact hlegalV

theorem step_controlLegal (hs : s.controlLegal) : t.controlLegal := by
  obtain ⟨hhalted, -, hfault⟩ := hs
  obtain ⟨hif, -⟩ := endOfStepBookkeeping s t h
  obtain ⟨-, u, v, hu, hv, rfl⟩ := step_eq_next h
  obtain ⟨-, -, -, -, -, -, hfaultU⟩ := cpuStep_memory hu
  have himeU := cpuStep_halted_ime hu hhalted
  have hcontrol : (v.halted = true → v.ime = true) ∧ v.fault = none := by
    obtain rfl | ⟨-, k, l, rfl⟩ := icDispatch_eq_next hv
    · rw [devices_only]
      exact ⟨himeU, hfaultU.trans hfault⟩
    · rw [storeAll_only, devices_only]
      exact ⟨nofun, hfaultU.trans hfault⟩
  refine ⟨?_, hif, ?_⟩
  · rw [frameLoopCheck_eq]
    exact hcontrol.1
  · rw [frameLoopCheck_eq]
    exact hcontrol.2

theorem step_ppuInStep (hs : s.ppuInStep) : t.ppuInStep := by
  have hlines := hs.line_cases
  obtain ⟨-, u, v, hu, hv, rfl⟩ := step_eq_next h
  have hcost := cpuStep_stepCycles hu
  have hframe : v.frameCycles = u.frameCycles + u.stepCycles := by
    obtain ⟨-, -, -, -, hkept, -⟩ := icDispatch_memory hv
    rw [hkept, devices_only]
  obtain ⟨-, -, -, -, hkept, -⟩ := cpuStep_memory hu
  have hat := icClearAll_ppuAt (icDispatch_ppuAt hv (devices_ppuAt (cpuStep_ppuInStep hu hs) hcost))
  rw [← hframe] at hat
  refine frameLoopCheck_ppuInStep hat ?_
  change v.frameCycles < 70248
  omega

end

/-- Settles O57: a step keeps each part of the invariant. -/
theorem invariantPreserved : Obligations.InvariantPreserved := by
  unfold Obligations.InvariantPreserved
  intro s t hs h
  obtain ⟨hstores, hbank, hcontrol, hppu⟩ := hs
  exact ⟨step_storesWf h hstores, step_bankLegal h hbank, step_controlLegal h hcontrol, step_ppuInStep h hppu⟩

end Sys2Proof.Machine
end

section
/-! SUPPORT. The start of a session (R239, R1500, R1501): the load-time checks, the values that every start has, and O58 and O59,
assembled from them. -/

namespace Sys2Proof.Machine

open Sys2Proof

/-! ## The load-time checks -/

/-- The RAM-size codes with a size (R237). -/
theorem ramSizeOfCode_eq_none_iff :
    ∀ code : Byte, Params.ramSizeOfCode code = none ↔ code ∉ [0x00, 0x01, 0x02, 0x03, 0x04, (0x05 : Byte)] := by
  decide

/-- An image is accepted exactly if it passes the three checks (R239). -/
theorem loadCheck_eq_none_iff {c : Cart} :
    c.loadCheck = none ↔
      0x150 ≤ c.romLen ∧ c.byte 0x147 ∈ [0x00, 0x01, 0x02, (0x03 : Byte)] ∧
        c.byte 0x149 ∈ [0x00, 0x01, 0x02, 0x03, 0x04, (0x05 : Byte)] := by
  have hram := ramSizeOfCode_eq_none_iff (c.byte Params.headerRamOffset)
  rw [Cart.loadCheck]
  by_cases hshort : c.romLen < Params.minRomLen
  · rw [if_pos hshort]
    exact iff_of_false (Option.some_ne_none _) fun ⟨hromLen, _⟩ => Nat.not_lt.mpr hromLen hshort
  have hromLen : 0x150 ≤ c.romLen := Nat.le_of_not_lt hshort
  by_cases htype : c.byte Params.headerTypeOffset ∉ Params.supportedCartTypes
  · rw [if_neg hshort, if_pos htype]
    exact iff_of_false (Option.some_ne_none _) fun ⟨_, hsupported, _⟩ => htype hsupported
  by_cases hcode : Params.ramSizeOfCode (c.byte Params.headerRamOffset) = none
  · rw [if_neg hshort, if_neg htype, if_pos hcode]
    exact iff_of_false (Option.some_ne_none _) fun ⟨_, _, hknown⟩ => hram.mp hcode hknown
  · rw [if_neg hshort, if_neg htype, if_neg hcode]
    exact iff_of_true rfl ⟨hromLen, not_not.mp htype, not_not.mp (hram.not.mp hcode)⟩

/-! ## The storages of a start -/

/-- A storage built from cells is in the canonical form. -/
theorem Store.wf_ofCells {w : Nat} (unlisted : Nat → BitVec w) (bound : Nat) (cells : Store w) :
    Store.wf unlisted bound (Store.ofCells unlisted bound cells) := by
  induction cells with
  | nil => rfl
  | cons c rest ih =>
    unfold Store.ofCells
    simp only []
    split
    · next hi => exact Store.wf_write hi ih
    · exact ih

/-! ## The values of a start -/

/-- The control bits, device bytes, bank registers, PPU and cycle count that every start has (R125, R130, R140, R141). -/
structure StartValues (s : State) : Prop where
  control : s.ime = false ∧ s.halted = false ∧ s.unimplementedSeen = false ∧ s.fault = none
  deviceBytes : s.busRead 0xFF0F = 0 ∧ s.busRead 0xFFFF = 0 ∧ s.busRead 0xFF44 = 0 ∧
    (s.busRead 0xFF41).extractLsb' 0 2 = 2#2
  bank : s.bank.romBank = 1 ∧ s.bank.ramBank = 0 ∧ s.bank.ramEnabled = false ∧ s.bank.bankingMode = .romBanking
  ppu : s.ppu.line = 0 ∧ s.ppu.rendered = false ∧ s.ppu.vblankFired = false ∧ s.frameCycles = 0

/-- These values meet the invariant, over storages in the canonical form. -/
theorem StartValues.inv {s : State} (h : StartValues s) (hstores : s.storesWf) : s.Inv := by
  obtain ⟨⟨-, hhalted, -, hfault⟩, ⟨hif, -, hly, hphase⟩, ⟨hrom, hram, -, -⟩, hline, hrendered, hfired, hframe⟩ := h
  refine ⟨hstores, ⟨?_, fun _ => hram⟩, ⟨fun hh => ?_, hif, hfault⟩, ?_, .inl ⟨?_, ?_, ?_⟩, ?_, ?_⟩
  · rw [hrom]
    decide
  · rw [hhalted] at hh
    cases hh
  · rw [hline]
    exact congrArg BitVec.toNat hly
  · rw [hline, hframe]
    rfl
  · rw [hframe]
    decide
  · rw [hline, hframe]
    exact hphase
  · rw [hrendered]
    exact iff_of_false Bool.false_ne_true fun hzero => absurd (hphase.symm.trans hzero) (by decide)
  · rw [hfired, hline]
    decide

/-- Settles O58: reset has the values of a start, and nothing is listed. -/
theorem invariantAtReset : Obligations.InvariantAtReset := by
  obtain ⟨-, -, -, -, hcontrol⟩ := State.reset_cpu
  exact StartValues.inv ⟨hcontrol, State.reset_deviceBytes, State.reset_bank, State.reset_ppu⟩ ⟨rfl, rfl, rfl, rfl, rfl⟩

/-- The device bytes after reset, whatever the bus held (R141). -/
theorem busAtReset_deviceBytes (busInit : Memory) (s : State) :
    (busAtReset busInit s).busRead 0xFF0F = 0 ∧ (busAtReset busInit s).busRead 0xFFFF = 0 ∧
      (busAtReset busInit s).busRead 0xFF44 = 0 ∧ ((busAtReset busInit s).busRead 0xFF41).extractLsb' 0 2 = 2#2 := by
  generalize hu : ((State.busPoke Params.addrIF 0 { s with bus := Store.ofCells Config.busUnlisted 0x10000 busInit }).busPoke
    Params.addrIE 0).busPoke Params.addrLY 0 = u
  have hstart : busAtReset busInit s = setStatPhase 2 u := by
    rw [← hu]
    rfl
  have hkept {a : Nat} (ha : a ≠ Params.addrSTAT) : (busAtReset busInit s).busRead a = u.busRead a := by
    rw [hstart, setStatPhase, busRead_busPoke_ne _ _ ha]
  refine ⟨(hkept (by decide)).trans ?_, (hkept (by decide)).trans ?_, (hkept (by decide)).trans ?_, ?_⟩
  · rw [← hu, busRead_busPoke_ne _ _ (by decide), busRead_busPoke_ne _ _ (by decide)]
    exact busRead_busPoke_same ..
  · rw [← hu, busRead_busPoke_ne _ _ (by decide)]
    exact busRead_busPoke_same ..
  · rw [← hu]
    exact busRead_busPoke_same ..
  · have hstat : (setStatPhase 2 u).busRead 0xFF41 = (u.busRead Params.addrSTAT &&& 0xFC) ||| (2 : BitVec 2).setWidth 8 :=
      busRead_busPoke_same ..
    rw [hstart, hstat, stat_setPhase]
    exact BitVec.extractLsb'_append_eq_right

/-- The bus after reset is in the canonical form, if the other storages are (R141). -/
theorem storesWf_busAtReset (busInit : Memory) {s : State}
    (h : State.storesWf { s with bus := Store.ofCells Config.busUnlisted 0x10000 busInit }) :
    (busAtReset busInit s).storesWf :=
  (((h.busPoke (addr := Params.addrIF) (by decide) 0).busPoke (addr := Params.addrIE) (by decide) 0).busPoke
    (addr := Params.addrLY) (by decide) 0).busPoke (addr := Params.addrSTAT) (by decide) _

/-- The bus at reset gives the device bytes, and the rest of the state keeps its values. -/
theorem startValues_busAtReset (busInit : Memory) {s : State}
    (hcontrol : s.ime = false ∧ s.halted = false ∧ s.unimplementedSeen = false ∧ s.fault = none)
    (hbank : s.bank.romBank = 1 ∧ s.bank.ramBank = 0 ∧ s.bank.ramEnabled = false ∧ s.bank.bankingMode = .romBanking)
    (hppu : s.ppu.line = 0 ∧ s.ppu.rendered = false ∧ s.ppu.vblankFired = false ∧ s.frameCycles = 0) :
    StartValues (busAtReset busInit s) :=
  ⟨hcontrol, busAtReset_deviceBytes busInit s, hbank, hppu⟩

/-- Settles O59: a session starts on an accepted image, with the values of a start. -/
theorem sessionStart : Obligations.SessionStart := by
  unfold Obligations.SessionStart
  intro cart busInit ramInit fbActive fbPresented r extReq
  unfold startSession
  refine ⟨?_, fun s h => ?_⟩
  · rw [← loadCheck_eq_none_iff]
    cases cart.loadCheck <;> simp
  · split at h
    · cases h
    obtain rfl := Except.ok.inj h
    obtain ⟨hif, hie, hly, hstat⟩ := busAtReset_deviceBytes busInit _
    exact ⟨rfl, rfl, rfl, rfl, rfl, rfl, rfl, rfl, hif, hie, hly, hstat, rfl, rfl, rfl, rfl, rfl, rfl, rfl, rfl,
      (startValues_busAtReset busInit ⟨rfl, rfl, rfl, rfl⟩ ⟨rfl, rfl, rfl, rfl⟩ ⟨rfl, rfl, rfl, rfl⟩).inv
        (storesWf_busAtReset busInit ⟨Store.wf_ofCells .., Store.wf_ofCells .., Store.wf_ofCells .., Store.wf_ofCells ..,
          Store.wf_ofCells ..⟩)⟩

end Sys2Proof.Machine
end
